-- ==== Sys2Proof/Word.lean ====
section
/-! DEFINITION. The words of the block: bytes, 40-bit command words and RGB triples (spec/00_scope.md R9, spec/30_encoding.md R80). -/

namespace Sys2Proof

/-- An 8-bit quantity: an operand byte, a colour channel or a temperature sample. -/
abbrev Byte := BitVec 8

/-- One command word, 40 bits (R80). -/
abbrev CommandWord := BitVec 40

/-- An RGB value: "a triple `(r, g, b)` of three 8-bit channels" (R9). -/
structure Rgb where
  r : Byte
  g : Byte
  b : Byte
  deriving DecidableEq, Repr, Inhabited

/-- `BLACK` is `(0, 0, 0)` (R9). -/
def Rgb.black : Rgb := ⟨0, 0, 0⟩

end Sys2Proof
end

