-- ==== Sys2Proof/Config.lean ====
section
/-! DEFINITION. What an instance of the block fixes: its parameters, when they are legal, the values the spec
gives by default, and the open values as constants without a body (spec/00_scope.md R5 to R8,
spec/41_mode_control.md R121 to R124, R128, spec/93_implementation_defined.md U4, U5, U13). -/

namespace Sys2Proof

/-- The blend-mode flag: stepped or linear sampling of a palette (R23). -/
inductive Blend where
  | stepped
  | linear
  deriving DecidableEq, Repr

/-- A palette: an "ordered sequence of 16 RGB stops" (R100). -/
structure Palette where
  stops : List Rgb
  sixteen : stops.length = 16
  deriving DecidableEq, Repr

/-- The palette whose stop `k` is `f k`. -/
def Palette.ofFn (f : Nat → Rgb) : Palette := ⟨(List.range 16).map f, by simp⟩

/-- The six palettes of the catalog (R121), ids 0 to 5 in this order. -/
inductive PaletteId where
  | rainbowP
  | heatP
  | partyP
  | spectralP
  | brbgP
  | yiygP
  deriving DecidableEq, Repr

/-- The contents of the read-only catalog, one palette per id (R8, R121). -/
structure Catalog where
  rainbowP : Palette
  heatP : Palette
  partyP : Palette
  spectralP : Palette
  brbgP : Palette
  yiygP : Palette
  deriving DecidableEq, Repr

/-- The admitted modes, codes 0 to 8 in this order (R124). The reserved codes 9 and above name no mode of the block. -/
inductive Mode where
  | rainbow
  | rainbow2
  | rainbow3
  | party
  | fire
  | random
  | spectral
  | brbg
  | yiyg
  deriving DecidableEq, Repr

/-- The `strategy` field: which renderer RUN uses (R122). -/
inductive Strategy where
  | scroll
  | crossfade
  | fire
  deriving DecidableEq, Repr

/-- The `palette` field: a catalog id, or the marker `RANDOM_PAIR` (R122). -/
inductive PaletteChoice where
  | catalog (id : PaletteId)
  | randomPair
  deriving DecidableEq, Repr

/-- One mode configuration record (R122). `delta` is the signed scroll step in two's complement, read by `BitVec.toInt`. -/
structure ModeConfig where
  period : BitVec 16
  palette : PaletteChoice
  strategy : Strategy
  range : Byte
  delta : Byte
  masked : Bool
  step : Byte
  deriving DecidableEq, Repr

/-- The mode table: one record for every admitted mode (R122, R128). -/
structure ModeTable where
  rainbow : ModeConfig
  rainbow2 : ModeConfig
  rainbow3 : ModeConfig
  party : ModeConfig
  fire : ModeConfig
  random : ModeConfig
  spectral : ModeConfig
  brbg : ModeConfig
  yiyg : ModeConfig
  deriving DecidableEq, Repr

/-- `FIRE_GRAIN`: one simulation cell per tile, or one per LED (R6). -/
inductive FireGrain where
  | coarse
  | fine
  deriving DecidableEq, Repr, Inhabited

/-- `STEPPED_SELECT`: which stop the stepped blend mode returns (R8, R104). -/
inductive SteppedSelect where
  | lower
  | nearest
  deriving DecidableEq, Repr

/-- The parameters that fix an instance (R5 to R8). -/
structure Params where
  numTiles : Nat
  tileSize : Nat
  fireGrain : FireGrain
  cooling : Byte
  sparking : Byte
  numSparks : Nat
  sparkZone : Nat
  maskPeriodMs : BitVec 32
  targetPeriodMs : BitVec 32
  catalog : Catalog
  modeTable : ModeTable
  defaultMode : Mode
  steppedSelect : SteppedSelect
  deriving DecidableEq, Repr

/-- `NumLeds = NumTiles * TileSize` (R5). -/
def Params.numLeds (p : Params) : Nat := p.numTiles * p.tileSize

/-- `CellCount`: `NumTiles` when coarse, `NumLeds` when fine (R6, R171). -/
def Params.cellCount (p : Params) : Nat :=
  match p.fireGrain with
  | .coarse => p.numTiles
  | .fine => p.numLeds

/-- The range conditions of one record: `period` at least 1, and `step` at least 1 where the strategy uses it
(R122, R128). The other ranges hold by the fields' types. -/
abbrev ModeConfig.Legal (c : ModeConfig) : Prop :=
  1 ≤ c.period.toNat ∧ (c.strategy = .crossfade → 1 ≤ c.step.toNat)

/-- `30 <= period <= 50` (R128). -/
abbrev ModeConfig.SlowPeriod (c : ModeConfig) : Prop :=
  30 ≤ c.period.toNat ∧ c.period.toNat ≤ 50

/-- The cells of a mode table that the source fixes, which a legal table keeps (R128). -/
abbrev ModeTable.KeepsSourceCells (t : ModeTable) : Prop :=
  t.rainbow.palette = .catalog .rainbowP ∧ t.rainbow.strategy = .scroll ∧ t.rainbow.range = 255 ∧
  t.rainbow.delta = 1 ∧ t.rainbow.masked = false ∧
  t.fire.strategy = .fire ∧ t.fire.SlowPeriod ∧ t.rainbow2.SlowPeriod ∧
  t.random.palette = .randomPair ∧ t.random.strategy = .crossfade ∧ t.random.range = 255 ∧
  (t.random.step = 12 ∨ t.random.step = 24)

/-- A legal mode table (R128). -/
abbrev ModeTable.Legal (t : ModeTable) : Prop :=
  (t.rainbow.Legal ∧ t.rainbow2.Legal ∧ t.rainbow3.Legal ∧ t.party.Legal ∧ t.fire.Legal ∧
    t.random.Legal ∧ t.spectral.Legal ∧ t.brbg.Legal ∧ t.yiyg.Legal) ∧ t.KeepsSourceCells

/-- A legal parameter set: the conditions of R5, R6 and R128 that R212 collects. -/
abbrev Params.Legal (p : Params) : Prop :=
  1 ≤ p.numTiles ∧ 1 ≤ p.tileSize ∧ p.numLeds ≤ 65535 ∧
  1 ≤ p.numSparks ∧ 1 ≤ p.sparkZone ∧ p.sparkZone ≤ p.cellCount ∧ p.modeTable.Legal

/-- The parameters of an instance that exists: an illegal set is "refused, not run" (R5, R212, U13). -/
abbrev LegalParams := { p : Params // p.Legal }

/-- Building an instance: fails on an illegal parameter set (R5, R212, U13). -/
def LegalParams.build (p : Params) : Option LegalParams :=
  if h : p.Legal then some ⟨p, h⟩ else none

namespace Config

/-- The default mode table, R123. A cell printed as a dash is used by no rule and holds 0 here (log entry 3). -/
def defaultModeTable : ModeTable where
  rainbow   := ⟨10, .catalog .rainbowP, .scroll, 255, 1, false, 0⟩
  rainbow2  := ⟨50, .catalog .rainbowP, .scroll, 128, 1, false, 0⟩
  rainbow3  := ⟨10, .catalog .rainbowP, .scroll, 255, 1, true, 0⟩
  party     := ⟨10, .catalog .partyP, .scroll, 255, 3, false, 0⟩
  fire      := ⟨30, .catalog .heatP, .fire, 0, 0, false, 0⟩
  random    := ⟨10, .randomPair, .crossfade, 255, 0, false, 12⟩
  spectral  := ⟨10, .catalog .spectralP, .scroll, 255, BitVec.ofInt 8 (-1), false, 0⟩
  brbg      := ⟨10, .catalog .brbgP, .scroll, 32, 1, false, 0⟩
  yiyg      := ⟨10, .catalog .yiygP, .scroll, 32, 1, false, 0⟩

/-- Open parameter `NumTiles` of the instance that `State.reset` is of (log entry 2). -/
opaque rawNumTiles : Nat
/-- Open parameter `TileSize` (log entry 2). -/
opaque rawTileSize : Nat
/-- Open parameter `FIRE_GRAIN` (log entry 2). -/
opaque openFireGrain : FireGrain
/-- Open parameter `COOLING` (log entry 2). -/
opaque openCooling : Byte
/-- Open parameter `SPARKING` (log entry 2). -/
opaque openSparking : Byte
/-- Open parameter `NUM_SPARKS` (log entry 2). -/
opaque rawNumSparks : Nat
/-- Open parameter `SPARK_ZONE` (log entry 2). -/
opaque rawSparkZone : Nat
/-- Open parameter `CATALOG`: the 96 stop values (log entry 2). -/
opaque openCatalogStop : PaletteId → Nat → Rgb

/-- Free value: what the random source answers to its request number `k` for a value below `n`, before reduction
into the range, when no answer was listed for it (log entry 4). -/
opaque freeRandom : Nat → Nat → BitVec 16
/-- Free value: what the random palette source answers to its request number `k` when no answer was listed (log entry 5). -/
opaque freePalette : Nat → BitVec 384
/-- Free value: what sink read number `k` returns for an address at or above `NumLeds` (U5, log entry 9). -/
opaque freeFrameData : Nat → BitVec 16 → BitVec 24

/-- The open constants folded into the ranges R5 and R6 give them; every legal combination is one of these. -/
def openNumTiles : Nat := 1 + rawNumTiles % 65535
/-- `TileSize` at least 1 with `NumLeds <= 65535` (R5). -/
def openTileSize : Nat := 1 + rawTileSize % (65535 / openNumTiles)

/-- The open catalog. -/
def openCatalog : Catalog where
  rainbowP := .ofFn (openCatalogStop .rainbowP)
  heatP := .ofFn (openCatalogStop .heatP)
  partyP := .ofFn (openCatalogStop .partyP)
  spectralP := .ofFn (openCatalogStop .spectralP)
  brbgP := .ofFn (openCatalogStop .brbgP)
  yiygP := .ofFn (openCatalogStop .yiygP)

/-- `CellCount` of the instance `State.reset` is of. -/
def openCellCount : Nat :=
  match openFireGrain with
  | .coarse => openNumTiles
  | .fine => openNumTiles * openTileSize

/-- The parameters of the instance `State.reset` is of: the spec's default wherever it gives one (R7, R8, R123),
an open constant wherever it leaves the value OPEN. -/
def resetParams : Params where
  numTiles := openNumTiles
  tileSize := openTileSize
  fireGrain := openFireGrain
  cooling := openCooling
  sparking := openSparking
  numSparks := 1 + rawNumSparks
  sparkZone := 1 + rawSparkZone % openCellCount
  maskPeriodMs := 60
  targetPeriodMs := 5000
  catalog := openCatalog
  modeTable := defaultModeTable
  defaultMode := .rainbow
  steppedSelect := .lower

theorem defaultModeTable_legal : defaultModeTable.Legal := by decide

theorem openNumTiles_pos : 1 ≤ openNumTiles := by unfold openNumTiles; omega

theorem openNumLeds_le : openNumTiles * openTileSize ≤ 65535 := by
  have hle : openNumTiles ≤ 65535 := by
    have := Nat.mod_lt rawNumTiles (show 65535 > 0 by decide)
    unfold openNumTiles; omega
  have hq : 0 < 65535 / openNumTiles := Nat.div_pos hle openNumTiles_pos
  have ht : openTileSize ≤ 65535 / openNumTiles := by
    have := Nat.mod_lt rawTileSize hq
    unfold openTileSize; omega
  exact (Nat.mul_le_mul_left _ ht).trans (Nat.mul_div_le _ _)

theorem openCellCount_eq : openCellCount = resetParams.cellCount := rfl

theorem openCellCount_pos : 1 ≤ openCellCount := by
  have ht : 1 ≤ openTileSize := by unfold openTileSize; omega
  unfold openCellCount
  split
  · exact openNumTiles_pos
  · exact Nat.mul_pos openNumTiles_pos ht

/-- The instance `State.reset` is of exists. -/
theorem resetParams_legal : resetParams.Legal := by
  refine ⟨openNumTiles_pos, ?_, openNumLeds_le, ?_, ?_, ?_, defaultModeTable_legal⟩
  · show 1 ≤ openTileSize
    unfold openTileSize; omega
  · show 1 ≤ 1 + rawNumSparks
    omega
  · show 1 ≤ 1 + rawSparkZone % openCellCount
    omega
  · show 1 + rawSparkZone % openCellCount ≤ openCellCount
    have := Nat.mod_lt rawSparkZone (show openCellCount > 0 from openCellCount_pos)
    omega

/-- The instance `State.reset` is of. -/
def resetInstance : LegalParams := ⟨resetParams, resetParams_legal⟩

end Config

end Sys2Proof
end

