-- ==== Sys2Proof/Syntax.lean ====
section
/-! DEFINITION. The eight commands, one constructor per row of the opcode table (spec/30_encoding.md R81 to R83). -/

namespace Sys2Proof

/-- A command with its operand: `mode = arg[7:0]`, `now = arg[31:0]`, `level` and `idx = arg[7:0]`, `blend = arg[0]` (R83). -/
inductive Instr where
  | nop
  | setmode (mode : Byte)
  | run (now : BitVec 32)
  | off
  | on
  | setbright (level : Byte)
  | setblend (blend : BitVec 1)
  | sample (idx : Byte)
  deriving DecidableEq, Repr

end Sys2Proof
end

