-- ==== Sys2Proof/WellFormed.lean ====
section
/-! DEFINITION. Which commands are well formed: the one operand condition that the fields' widths do not already
enforce is that SETMODE names an admitted mode (spec/30_encoding.md R86, R87 check 3). -/

namespace Sys2Proof

/-- A command whose operand raises no error (R87 check 3: for SETMODE, `mode <= 8`). -/
def Instr.wellFormed : Instr → Bool
  | .nop => true
  | .setmode mode => decide (mode.toNat ≤ 8)
  | .run _ => true
  | .off => true
  | .on => true
  | .setbright _ => true
  | .setblend _ => true
  | .sample _ => true

end Sys2Proof
end

