-- ==== Sys2Proof/Decode.lean ====
section
/-! DEFINITION. The decoder, total on the `2^40` command words, and the encoder (spec/30_encoding.md R80 to R88). -/

namespace Sys2Proof

/-- The defined opcodes (R81). -/
inductive Opcode where
  | nop
  | setmode
  | run
  | off
  | on
  | setbright
  | setblend
  | sample
  deriving DecidableEq, Repr

/-- The operand formats (R82). -/
inductive Format where
  | Z
  | M
  | B
  | F
  | T
  deriving DecidableEq, Repr

/-- Why a word spells no command: R84, R85. Both raise `BadCommand`. -/
inductive Reject where
  /-- `op` is 0x08 to 0xFF (R84). -/
  | reservedOpcode
  /-- A bit that the format says must be 0 is 1 (R85). -/
  | mustBeZero
  deriving DecidableEq, Repr

/-- `op`, bits 39 to 32 (R80). -/
def opField (w : CommandWord) : Byte := w.extractLsb' 32 8

/-- `arg`, bits 31 to 0 (R80). -/
def argField (w : CommandWord) : BitVec 32 := w.extractLsb' 0 32

/-- The opcode map (R81). -/
def Opcode.ofByte (op : Byte) : Option Opcode :=
  match op.toNat with
  | 0 => some .nop
  | 1 => some .setmode
  | 2 => some .run
  | 3 => some .off
  | 4 => some .on
  | 5 => some .setbright
  | 6 => some .setblend
  | 7 => some .sample
  | _ => none

/-- The byte of an opcode (R81). -/
def Opcode.toByte : Opcode → Byte
  | .nop => 0x00
  | .setmode => 0x01
  | .run => 0x02
  | .off => 0x03
  | .on => 0x04
  | .setbright => 0x05
  | .setblend => 0x06
  | .sample => 0x07

/-- The format of an opcode (R81). -/
def Opcode.format : Opcode → Format
  | .nop => .Z
  | .setmode => .M
  | .run => .T
  | .off => .Z
  | .on => .Z
  | .setbright => .B
  | .setblend => .F
  | .sample => .B

/-- Are the bits of `arg` that the format says must be 0 all 0? (R82) -/
def Format.zerosHold : Format → BitVec 32 → Bool
  | .Z, arg => arg == 0
  | .M, arg => arg.extractLsb' 8 24 == 0
  | .B, arg => arg.extractLsb' 8 24 == 0
  | .F, arg => arg.extractLsb' 1 31 == 0
  | .T, _ => true

/-- Operand assembly (R83). -/
def Opcode.assemble : Opcode → BitVec 32 → Instr
  | .nop, _ => .nop
  | .setmode, arg => .setmode (arg.extractLsb' 0 8)
  | .run, arg => .run arg
  | .off, _ => .off
  | .on, _ => .on
  | .setbright, arg => .setbright (arg.extractLsb' 0 8)
  | .setblend, arg => .setblend (arg.extractLsb' 0 1)
  | .sample, arg => .sample (arg.extractLsb' 0 8)

/-- The decoder: checks (1) and (2) of R87, in that order. Check (3), on the operand of SETMODE, is
`Instr.wellFormed`, and R125 carries it out (log entry 13). -/
def decode (w : CommandWord) : Except Reject Instr :=
  match Opcode.ofByte (opField w) with
  | none => .error .reservedOpcode
  | some o => if o.format.zerosHold (argField w) then .ok (o.assemble (argField w)) else .error .mustBeZero

/-- The opcode of a command. -/
def Instr.opcode : Instr → Opcode
  | .nop => .nop
  | .setmode _ => .setmode
  | .run _ => .run
  | .off => .off
  | .on => .on
  | .setbright _ => .setbright
  | .setblend _ => .setblend
  | .sample _ => .sample

/-- The operand field of a command, its unused bits 0 (R82, R83). -/
def Instr.arg : Instr → BitVec 32
  | .nop => 0
  | .setmode mode => 0#24 ++ mode
  | .run now => now
  | .off => 0
  | .on => 0
  | .setbright level => 0#24 ++ level
  | .setblend blend => 0#31 ++ blend
  | .sample idx => 0#24 ++ idx

/-- The encoder: `{op, arg}` (R80). -/
def encode (i : Instr) : CommandWord := i.opcode.toByte ++ i.arg

/-- The `match` column of R88. -/
def Opcode.matchWord : Opcode → CommandWord
  | .nop => 0x0000000000
  | .setmode => 0x0100000000
  | .run => 0x0200000000
  | .off => 0x0300000000
  | .on => 0x0400000000
  | .setbright => 0x0500000000
  | .setblend => 0x0600000000
  | .sample => 0x0700000000

/-- The `mask` column of R88. -/
def Opcode.maskWord : Opcode → CommandWord
  | .nop => 0xFFFFFFFFFF
  | .setmode => 0xFFFFFFFF00
  | .run => 0xFF00000000
  | .off => 0xFFFFFFFFFF
  | .on => 0xFFFFFFFFFF
  | .setbright => 0xFFFFFFFF00
  | .setblend => 0xFFFFFFFFFE
  | .sample => 0xFFFFFFFF00

/-- "A word `w` is the command of a row when `(w AND mask) = match`" (R88). -/
def Opcode.matches (o : Opcode) (w : CommandWord) : Bool := w &&& o.maskWord == o.matchWord

/-- The command word whose bits, numbered as spec/opcode_table.json numbers them, are the `nbits` low bits of `w`;
every bit above them is 0. A command is one word, so the table's numbering is the word's own. -/
def wordOfTableBits (nbits w : Nat) : CommandWord := BitVec.ofNat 40 (w % 2 ^ nbits)

/-- What the decoder reads from a word given by its table bits. -/
def decodeTableWord (nbits w : Nat) : Option Instr :=
  match decode (wordOfTableBits nbits w) with
  | .ok i => some i
  | .error _ => none

end Sys2Proof
end

