-- ==== Sys2Proof/Machine/Arith.lean ====
section
/-! DEFINITION. The arithmetic primitives (spec/00_scope.md R11): operands are read as naturals, the result is computed
exactly and narrowed once. `a div b`, `a mod b`, `min` and `max` are those of `Nat`. -/

namespace Sys2Proof.Machine

/-- `sat_sub8(a, d) = max(a - d, 0)` (R11). Subtraction on `Nat` is already floored at 0. -/
def satSub8 (a : Byte) (d : Nat) : Byte := BitVec.ofNat 8 (a.toNat - d)

/-- `sat_add8(a, d) = min(a + d, 255)` (R11). -/
def satAdd8 (a : Byte) (d : Nat) : Byte := BitVec.ofNat 8 (min (a.toNat + d) 255)

/-- Narrowing of a value that may pass 255, "saturating at 255" (R11, R173). -/
def clamp8 (v : Nat) : Byte := BitVec.ofNat 8 (min v 255)

end Sys2Proof.Machine
end

