-- ==== Sys2Proof/Machine/Palette.lean ====
section
/-! DEFINITION. Packing of RGB values and palettes, and access to a palette's stops (spec/00_scope.md R9, spec/10_state.md R43,
spec/40_palette_interpolator.md R100). -/

namespace Sys2Proof

/-- "packed into 24 bits it is `{r, g, b}`" (R9). -/
def Rgb.pack (c : Rgb) : BitVec 24 := c.r ++ c.g ++ c.b

/-- The triple packed in 24 bits: `r` is bits 23 to 16, `g` bits 15 to 8, `b` bits 7 to 0 (R9). -/
def Rgb.unpack (w : BitVec 24) : Rgb := ⟨w.extractLsb' 16 8, w.extractLsb' 8 8, w.extractLsb' 0 8⟩

/-- `f` on each of the three channels of two colours. -/
def Rgb.map₂ (f : Byte → Byte → Byte) (a b : Rgb) : Rgb := ⟨f a.r b.r, f a.g b.g, f a.b b.b⟩

/-- Stop number `k mod 16` of a palette (R100). -/
def Palette.stop (p : Palette) (k : Nat) : Rgb := p.stops.getD (k % 16) Rgb.black

/-- `f` on each stop of two palettes. -/
def Palette.map₂ (f : Rgb → Rgb → Rgb) (p q : Palette) : Palette := .ofFn fun k => f (p.stop k) (q.stop k)

/-- The palette that `pal_data` carries: stop `s` is `pal_data[24*s+23 : 24*s]` (R43). -/
def Palette.ofData (data : BitVec 384) : Palette := .ofFn fun s => Rgb.unpack (data.extractLsb' (24 * s) 24)

/-- The `pal_data` that carries a palette (R43). -/
def Palette.toData (p : Palette) : BitVec 384 :=
  (p.stop 15).pack ++ (p.stop 14).pack ++ (p.stop 13).pack ++ (p.stop 12).pack ++
  (p.stop 11).pack ++ (p.stop 10).pack ++ (p.stop 9).pack ++ (p.stop 8).pack ++
  (p.stop 7).pack ++ (p.stop 6).pack ++ (p.stop 5).pack ++ (p.stop 4).pack ++
  (p.stop 3).pack ++ (p.stop 2).pack ++ (p.stop 1).pack ++ (p.stop 0).pack

end Sys2Proof
end

