-- ==== Sys2Proof/Machine/Channels.lean ====
section
/-! DEFINITION. The random channel and the random palette channel: one request, one response, per call, in call order
(spec/00_scope.md R12, R13, spec/10_state.md R42, R43). A listed answer is taken first; where none is listed the answer is a
free value (log entries 4 and 5). -/

namespace Sys2Proof.Machine

/-- The random channel: the answers the source is going to give, oldest first, and the bounds requested so far. -/
structure RandomChannel where
  answers : List (BitVec 16)
  requests : List Nat
  deriving DecidableEq, Repr

/-- The random palette channel: the palettes the source is going to answer, oldest first, and the number of requests so far. -/
structure PaletteChannel where
  answers : List (BitVec 384)
  requests : Nat
  deriving DecidableEq, Repr

/-- `Rand(n)` (R12): consumes exactly one draw and gives a value below `n`. A listed answer at or above `n` has no meaning (U4). -/
def RandomChannel.draw (n : Nat) (c : RandomChannel) : Option (Nat × RandomChannel) :=
  match c.answers with
  | [] => some ((Config.freeRandom c.requests.length n).toNat % n, { answers := [], requests := c.requests ++ [n] })
  | v :: rest =>
    if v.toNat < n then some (v.toNat, { answers := rest, requests := c.requests ++ [n] }) else none

/-- `RandPalette()` (R13): consumes exactly one palette draw; any 384-bit answer is legal. -/
def PaletteChannel.draw (c : PaletteChannel) : Palette × PaletteChannel :=
  match c.answers with
  | [] => (Palette.ofData (Config.freePalette c.requests), { answers := [], requests := c.requests + 1 })
  | d :: rest => (Palette.ofData d, { answers := rest, requests := c.requests + 1 })

end Sys2Proof.Machine
end

