-- ==== Sys2Proof/Machine/Multiplexer.lean ====
section
/-! DEFINITION. Mode codes, table and catalog lookup, and the palette multiplexer `Resolve` (spec/41_mode_control.md R121 to R126,
spec/20_memory.md R63). -/

namespace Sys2Proof

/-- The code of a mode (R124). -/
def Mode.code : Mode → Byte
  | .rainbow => 0
  | .rainbow2 => 1
  | .rainbow3 => 2
  | .party => 3
  | .fire => 4
  | .random => 5
  | .spectral => 6
  | .brbg => 7
  | .yiyg => 8

/-- The mode a code names, if it is admitted (R124); 9 to 255 are reserved. -/
def Mode.ofCode (code : Byte) : Option Mode :=
  match code.toNat with
  | 0 => some .rainbow
  | 1 => some .rainbow2
  | 2 => some .rainbow3
  | 3 => some .party
  | 4 => some .fire
  | 5 => some .random
  | 6 => some .spectral
  | 7 => some .brbg
  | 8 => some .yiyg
  | _ => none

/-- `MODE_TABLE[m]` (R122). -/
def ModeTable.config (t : ModeTable) : Mode → ModeConfig
  | .rainbow => t.rainbow
  | .rainbow2 => t.rainbow2
  | .rainbow3 => t.rainbow3
  | .party => t.party
  | .fire => t.fire
  | .random => t.random
  | .spectral => t.spectral
  | .brbg => t.brbg
  | .yiyg => t.yiyg

/-- `CATALOG[p]` (R63, R121). -/
def Catalog.palette (c : Catalog) : PaletteId → Palette
  | .rainbowP => c.rainbowP
  | .heatP => c.heatP
  | .partyP => c.partyP
  | .spectralP => c.spectralP
  | .brbgP => c.brbgP
  | .yiygP => c.yiygP

namespace Machine

/-- `Resolve(p)` (R126): the current palette, the target palette, and the channel after the draws, current first. -/
def resolve (catalog : Catalog) (choice : PaletteChoice) (pal : PaletteChannel) : Palette × Palette × PaletteChannel :=
  match choice with
  | .catalog id => (catalog.palette id, catalog.palette id, pal)
  | .randomPair => (pal.draw.1, pal.draw.2.draw.1, pal.draw.2.draw.2)

end Machine

end Sys2Proof
end

