-- ==== Sys2Proof/Machine/State.lean ====
section
/-! DEFINITION. The state of the block (spec/10_state.md R20 to R37), the agents around it as plain data, why a step can stop,
and the state after reset (R47, R210, R211). -/

namespace Sys2Proof.Machine

/-- The block has no faults: "no command transfers control, saves state, changes a mode or masks anything" (R190). Nobody raises one. -/
inductive Fault where
  deriving DecidableEq, Repr

/-- Why the model gives a step no meaning. -/
inductive Refusal where
  /-- Raised by `exec` for an instruction without a meaning; safe. No arm raises it. -/
  | notModelled (mnemonic : String)
  /-- Raised by RUN in the `FIRE` strategy when a listed answer of the random source is at or above its bound:
  "the model gives the step no meaning for such an answer" (U4). The hardware does not check, so stopping is safe. -/
  | randomAnswerOutOfRange
  deriving DecidableEq, Repr

/-- The two errors a command word can raise (R191). -/
inductive CommandError where
  | badCommand
  | invalidMode
  deriving DecidableEq, Repr

/-- What reaches the block from outside, one after another: a word on the command channel (R41), `rst` (R40), or a read of the
display sink, which happens between commands (R44, R215). -/
inductive Input where
  | command (word : CommandWord)
  | reset
  | sinkRead (addr : BitVec 16)
  deriving DecidableEq, Repr

/-- A gate's "last-fired timestamp" and whether it holds one yet (R32, R33). -/
structure Gate where
  last : BitVec 32
  armed : Bool
  deriving DecidableEq, Repr

/-- The state. First the instance, then the elements of R22 to R37 in the spec's order, then the agents around the block. -/
structure State where
  /-- The instance's parameters, R5 to R8; changed by no step (log entry 1). -/
  params : LegalParams
  /-- `MODE`, R22. -/
  mode : Mode
  /-- `BLEND`, R23. -/
  blend : Blend
  /-- `PERIOD`, R24. -/
  period : BitVec 16
  /-- `OFFSET`, R25. -/
  offset : Byte
  /-- `ON`, R26. -/
  on : Bool
  /-- `BRIGHT`, R27. -/
  bright : Byte
  /-- `CUR_PAL`, R28. -/
  curPal : Palette
  /-- `TGT_PAL`, R29. -/
  tgtPal : Palette
  /-- `HEAT`, R30: cell `k` is entry `k`. -/
  heat : List Byte
  /-- `SEC_CNT`, R31. -/
  secCnt : BitVec 4
  /-- `MASK_LAST` and `MASK_ARMED`, R32. -/
  maskGate : Gate
  /-- `TGT_LAST` and `TGT_ARMED`, R33. -/
  tgtGate : Gate
  /-- `RESULT`, R34. -/
  result : Rgb
  /-- `ERR_CMD`, R35. -/
  errCmd : Bool
  /-- `ERR_MODE`, R35. -/
  errMode : Bool
  /-- `FB`, R37: LED `i` is entry `i`. -/
  fb : List Rgb
  /-- What the host and the display sink do next, oldest first (log entry 7). -/
  inputs : List Input
  /-- The random channel, R42 (log entry 4). -/
  rnd : RandomChannel
  /-- The random palette channel, R43 (log entry 5). -/
  pal : PaletteChannel
  /-- The log events emitted so far, R46 (log entry 14). -/
  logOut : List Byte
  /-- The `fb_data` values read so far, R44 (log entry 9). -/
  sinkOut : List (BitVec 24)
  deriving DecidableEq, Repr

/-- The instance's parameters. -/
def State.cfg (s : State) : Params := s.params.val

/-- `MODE_TABLE[MODE]`. -/
def State.modeCfg (s : State) : ModeConfig := s.cfg.modeTable.config s.mode

/-- The block's memories have the shape the instance gives them: `NumLeds` entries of `FB`, `CellCount` cells of `HEAT` (R60, R68). -/
def Memory.wf (s : State) : Bool := s.fb.length == s.cfg.numLeds && s.heat.length == s.cfg.cellCount

/-- The reset state of an instance (R47), beside given agents. If the default mode's palette is `RANDOM_PAIR` two palette draws are
consumed, current first (R211). No log event is emitted (R210). -/
def State.resetOf (params : LegalParams) (inputs : List Input) (rnd : RandomChannel) (pal : PaletteChannel)
    (logOut : List Byte) (sinkOut : List (BitVec 24)) : State :=
  let p := params.val
  let cfg0 := p.modeTable.config p.defaultMode
  let palettes := resolve p.catalog cfg0.palette pal
  { params := params
    mode := p.defaultMode
    blend := .linear
    period := cfg0.period
    offset := 0
    on := true
    bright := 255
    curPal := palettes.1
    tgtPal := palettes.2.1
    heat := List.replicate p.cellCount 0
    secCnt := 0
    maskGate := { last := 0, armed := false }
    tgtGate := { last := 0, armed := false }
    result := Rgb.black
    errCmd := false
    errMode := false
    fb := List.replicate p.numLeds Rgb.black
    inputs := inputs
    rnd := rnd
    pal := palettes.2.2
    logOut := logOut
    sinkOut := sinkOut }

/-- The machine right after reset: no input waits, no draw was made, nothing was logged or read (log entries 2, 3, 15). -/
def State.reset : State :=
  State.resetOf Config.resetInstance [] { answers := [], requests := [] } { answers := [], requests := 0 } [] []

end Sys2Proof.Machine
end

