-- ==== Sys2Proof/Machine/Operands.lean ====
section
/-! DEFINITION. What the operand of a command stands for (spec/30_encoding.md R82, R83). An 8-bit `level` or `idx` and a 32-bit
`now` are the quantities themselves. -/

namespace Sys2Proof

/-- `1 = LINEAR`, `0 = STEPPED` (R23, R111). -/
def Blend.ofBit (b : BitVec 1) : Blend := if b = 1 then .linear else .stepped

/-- The bit of a blend value (R23). -/
def Blend.toBit : Blend → BitVec 1
  | .stepped => 0
  | .linear => 1

namespace Machine

/-- The operand of format M: the admitted mode it names, or `InvalidMode` (R86, R87 check 3). -/
def modeOperand (mode : Byte) : Except CommandError Mode :=
  match Mode.ofCode mode with
  | some m => .ok m
  | none => .error .invalidMode

/-- The operand of format F (R82, R111). -/
def blendOperand (blend : BitVec 1) : Blend := Blend.ofBit blend

end Machine

end Sys2Proof
end

