-- ==== Sys2Proof/Machine/Flags.lean ====
section
/-! DEFINITION. The flags and the status port (spec/10_state.md R35, R36, R45). No command sets a flag as a side effect of arithmetic. -/

namespace Sys2Proof.Machine

/-- `STATUS`: bit 0 = `ON`, bit 1 = `BLEND`, bit 2 = `ERR_CMD`, bit 3 = `ERR_MODE`, bits 7 to 4 read as 0 (R36). -/
def State.status (s : State) : Byte :=
  0#4 ++ BitVec.ofBool s.errMode ++ BitVec.ofBool s.errCmd ++ s.blend.toBit ++ BitVec.ofBool s.on

/-- The status port (R45). -/
structure StatusPort where
  stMode : Byte
  stPeriod : BitVec 16
  stBright : Byte
  stStatus : Byte
  stResult : BitVec 24
  deriving DecidableEq, Repr

/-- The outputs "continuously driven from state" (R45). -/
def State.statusPort (s : State) : StatusPort where
  stMode := s.mode.code
  stPeriod := s.period
  stBright := s.bright
  stStatus := s.status
  stResult := s.result.pack

/-- Setting the flag of an error: `ERR_CMD` for `BadCommand`, `ERR_MODE` for `InvalidMode` (R191 to R193). -/
def setErrorFlag (e : CommandError) (s : State) : State :=
  match e with
  | .badCommand => { s with errCmd := true }
  | .invalidMode => { s with errMode := true }

end Sys2Proof.Machine
end

