-- ==== Sys2Proof/Machine/Ops.lean ====
section
/-! DEFINITION. The operations the meanings share: raising an error, frame-buffer access, writing a whole frame, the gate,
the log event, reset and the sink's read. -/

namespace Sys2Proof.Machine

/-- `raise E(info)`: set the flag of `E` and end the command; "No other state element changes" (R191). It is the block's whole
exception mechanism: there is no entry and no return (R197, R198). -/
def raiseError (e : CommandError) (s : State) : State := setErrorFlag e s

/-- `MemRead(i, 1)`: the entry at index `i`, none where `FB` has no such entry (R61). -/
def memRead (s : State) (i : Nat) : Option Rgb := s.fb[i]?

/-- `MemWrite(i, 1, v)`: `FB[i] <- v` (R62). -/
def memWrite (i : Nat) (v : Rgb) (s : State) : State := { s with fb := s.fb.set i v }

/-- `for i in 0 .. NumLeds-1: MemWrite(i, 1, pixel i)`: "Every rule that writes `FB` writes all `NumLeds` entries" (R62). The entries
are written in one update (log entry 11). -/
def writeFrame (pixel : Nat → Rgb) (s : State) : State := { s with fb := (List.range s.cfg.numLeds).map pixel }

/-- The same as a loop of single writes, as the pseudocode of R129, R141, R144 and R178 spells it. -/
def writeFrameLoop (pixel : Nat → Rgb) (s : State) : State :=
  (List.range s.cfg.numLeds).foldl (fun t i => memWrite i (pixel i) t) s

/-- The whole frame black (R129, R141). -/
def blackout (s : State) : State := writeFrame (fun _ => Rgb.black) s

/-- `Gate(G, now, P)` (R142): whether the gate fires, and the gate afterwards. The difference is modulo `2^32` and is compared unsigned. -/
def gate (g : Gate) (now period : BitVec 32) : Bool × Gate :=
  if g.armed then
    if period.toNat ≤ (now - g.last).toNat then (true, { g with last := now }) else (false, g)
  else (false, { last := now, armed := true })

/-- `emit Log(m)` (R203). -/
def emitLog (code : Byte) (s : State) : State := { s with logOut := s.logOut ++ [code] }

/-- Reset (R40, R210): every element of the block takes its reset value; the agents around the block go on (log entry 8). -/
def applyReset (s : State) : State := State.resetOf s.params s.inputs s.rnd s.pal s.logOut s.sinkOut

/-- `fb_data`: the packed entry at `fb_addr` (R44, R61), a free value where there is none (U5). -/
def frameData (s : State) (addr : BitVec 16) : BitVec 24 :=
  match memRead s addr.toNat with
  | some c => c.pack
  | none => Config.freeFrameData s.sinkOut.length addr

/-- One read of the display sink: "A read has no side effect" (R61); the value read is recorded (log entry 9). -/
def sinkRead (addr : BitVec 16) (s : State) : State := { s with sinkOut := s.sinkOut ++ [frameData s addr] }

end Sys2Proof.Machine
end

