-- ==== Sys2Proof/Machine/ModeControl.lean ====
section
/-! DEFINITION. NOP, SETMODE, OFF, ON, SETBRIGHT (spec/41_mode_control.md). -/

namespace Sys2Proof.Machine

/-- NOP (R120). -/
def execNop (s : State) : Host.Outcome State Fault Refusal := .next s

/-- The assignments of SETMODE for an admitted mode (R125). -/
def enterMode (m : Mode) (s : State) : State :=
  let cfg := s.cfg.modeTable.config m
  let palettes := resolve s.cfg.catalog cfg.palette s.pal
  emitLog m.code
    { s with
      mode := m
      period := cfg.period
      blend := .linear
      offset := 0
      curPal := palettes.1
      tgtPal := palettes.2.1
      pal := palettes.2.2
      heat := List.replicate s.cfg.cellCount 0
      secCnt := 0
      maskGate := { s.maskGate with armed := false }
      tgtGate := { s.tgtGate with armed := false } }

/-- SETMODE `mode` (R125). -/
def execSetmode (mode : Byte) (s : State) : Host.Outcome State Fault Refusal :=
  match modeOperand mode with
  | .ok m => .next (enterMode m s)
  | .error e => .next (raiseError e s)

/-- OFF (R129). -/
def execOff (s : State) : Host.Outcome State Fault Refusal := .next (blackout { s with on := false })

/-- ON (R130). -/
def execOn (s : State) : Host.Outcome State Fault Refusal := .next { s with on := true }

/-- SETBRIGHT `level` (R131). -/
def execSetbright (level : Byte) (s : State) : Host.Outcome State Fault Refusal := .next { s with bright := level }

end Sys2Proof.Machine
end

