-- ==== Sys2Proof/Machine/Interpolator.lean ====
section
/-! DEFINITION. The palette interpolator unit, SAMPLE and SETBLEND (spec/40_palette_interpolator.md). -/

namespace Sys2Proof.Machine

/-- One channel of the linear blend: `(a.c * (16 - f) + b.c * f) >> 4` (R102). -/
def blendChannel (f : Nat) (a b : Byte) : Byte := BitVec.ofNat 8 ((a.toNat * (16 - f) + b.toNat * f) >>> 4)

/-- `Sample(P, idx, LINEAR)` (R101, R102); the stop after stop 15 is stop 0 (R103). -/
def sampleLinear (p : Palette) (idx : Byte) : Rgb :=
  let k := idx.toNat / 16
  Rgb.map₂ (blendChannel (idx.toNat % 16)) (p.stop k) (p.stop (k + 1))

/-- `Sample(P, idx, STEPPED)` (R104). -/
def sampleStepped (select : SteppedSelect) (p : Palette) (idx : Byte) : Rgb :=
  match select with
  | .lower => p.stop (idx.toNat / 16)
  | .nearest => p.stop ((idx.toNat + 8) >>> 4)

/-- `Sample(P, idx, blend)` (R102, R104, R105). -/
def samplePalette (select : SteppedSelect) (p : Palette) (idx : Byte) (blend : Blend) : Rgb :=
  match blend with
  | .linear => sampleLinear p idx
  | .stepped => sampleStepped select p idx

/-- `Sample(CUR_PAL, idx, BLEND)`: what every render and SAMPLE call (R107, R110). -/
def State.sampleCurrent (s : State) (idx : Byte) : Rgb := samplePalette s.cfg.steppedSelect s.curPal idx s.blend

/-- SAMPLE `idx` (R110). -/
def execSample (idx : Byte) (s : State) : Host.Outcome State Fault Refusal :=
  .next { s with result := s.sampleCurrent idx }

/-- SETBLEND `blend` (R111). -/
def execSetblend (blend : BitVec 1) (s : State) : Host.Outcome State Fault Refusal :=
  .next { s with blend := blendOperand blend }

end Sys2Proof.Machine
end

