-- ==== Sys2Proof/Machine/RunScroll.lean ====
section
/-! DEFINITION. RUN in the `SCROLL` strategy and the scroll renderer (spec/42_run_scroll.md R143, R144). -/

namespace Sys2Proof.Machine

/-- `OFFSET <- (OFFSET + delta) mod 256`, `delta` signed, floor modulus (R143). -/
def advanceOffset (delta : Byte) (s : State) : State :=
  { s with offset := BitVec.ofInt 8 ((s.offset.toNat + delta.toInt) % 256) }

/-- `SEC_CNT <- (SEC_CNT + 1) mod 11` when the mask gate fires (R143). -/
def stepMask (now : BitVec 32) (s : State) : State :=
  let fired := gate s.maskGate now s.cfg.maskPeriodMs
  { s with
    maskGate := fired.2
    secCnt := if fired.1 then BitVec.ofNat 4 ((s.secCnt.toNat + 1) % 11) else s.secCnt }

/-- The palette index of tile `tile`: `(tile * stride + OFFSET) mod 256` with `stride = range div NumTiles` (R144). -/
def scrollIndex (range : Byte) (s : State) (tile : Nat) : Byte :=
  BitVec.ofNat 8 ((tile * (range.toNat / s.cfg.numTiles) + s.offset.toNat) % 256)

/-- Is LED `i` blacked out by the mask? `(i + SEC_CNT) mod 11 < 5` (R144). -/
def maskedOut (s : State) (i : Nat) : Bool := decide ((i + s.secCnt.toNat) % 11 < 5)

/-- The colour `ScrollRender` gives LED `i` (R144). -/
def scrollPixel (range : Byte) (masked : Bool) (s : State) (i : Nat) : Rgb :=
  if masked && maskedOut s i then Rgb.black else s.sampleCurrent (scrollIndex range s (i / s.cfg.tileSize))

/-- `ScrollRender(range, masked)` (R144). -/
def scrollRender (range : Byte) (masked : Bool) (s : State) : State := writeFrame (scrollPixel range masked s) s

/-- `RunScroll(cfg, now)` (R143): offset, then mask gate and counter, then render. -/
def runScroll (cfg : ModeConfig) (now : BitVec 32) (s : State) : State :=
  let moved := advanceOffset cfg.delta s
  scrollRender cfg.range cfg.masked (if cfg.masked then stepMask now moved else moved)

end Sys2Proof.Machine
end

