-- ==== Sys2Proof/Machine/RunCrossfade.lean ====
section
/-! DEFINITION. RUN in the `CROSSFADE` strategy (spec/43_run_crossfade.md R160, R161). -/

namespace Sys2Proof.Machine

/-- `Nudge(x, t, s)` (R161). Above the target `x - s` is floored at 0, which `max` with the target makes no difference to. -/
def nudge (step : Nat) (x t : Byte) : Byte :=
  if x.toNat < t.toNat then BitVec.ofNat 8 (min (x.toNat + step) t.toNat)
  else if t.toNat < x.toNat then BitVec.ofNat 8 (max (x.toNat - step) t.toNat)
  else x

/-- Every one of the 48 channels nudged toward its target (R160). -/
def nudgePalette (step : Nat) (cur tgt : Palette) : Palette := Palette.map₂ (Rgb.map₂ (nudge step)) cur tgt

/-- The new-target gate: when it fires, `TGT_PAL <- RandPalette()` (R160). -/
def refreshTarget (now : BitVec 32) (s : State) : State :=
  let fired := gate s.tgtGate now s.cfg.targetPeriodMs
  { s with
    tgtGate := fired.2
    tgtPal := if fired.1 then s.pal.draw.1 else s.tgtPal
    pal := if fired.1 then s.pal.draw.2 else s.pal }

/-- `RunCrossfade(cfg, now)` (R160): offset to 0, nudge, new-target gate, render unmasked. -/
def runCrossfade (cfg : ModeConfig) (now : BitVec 32) (s : State) : State :=
  scrollRender cfg.range false
    (refreshTarget now { s with offset := 0, curPal := nudgePalette cfg.step.toNat s.curPal s.tgtPal })

end Sys2Proof.Machine
end

