-- ==== Sys2Proof/Machine/RunFire.lean ====
section
/-! DEFINITION. RUN in the `FIRE` strategy: cooling, diffusion, ignition, heat-to-colour (spec/44_run_fire.md R170 to R178). -/

namespace Sys2Proof.Machine

/-- `cmax = ((COOLING * 10) div CellCount) + 2` (R172). -/
def coolingBound (p : Params) : Nat := p.cooling.toNat * 10 / p.cellCount + 2

/-- `Cool()` over the cells in ascending order, one `Rand(cmax)` per cell (R172). -/
def cool (cmax : Nat) : List Byte → RandomChannel → Option (List Byte × RandomChannel)
  | [], c => some ([], c)
  | h :: rest, c =>
    match c.draw cmax with
    | none => none
    | some (d, c₁) =>
      match cool cmax rest c₁ with
      | none => none
      | some (cooled, c₂) => some (satSub8 h d :: cooled, c₂)

/-- The temperature of cell `k` as a natural. -/
def cellHeat (h : List Byte) (k : Nat) : Nat := (h.getD k 0).toNat

/-- Coarse diffusion (R173): weights 2, 2, 1 over 4, clamped to 255. -/
def coarseHeat (h : List Byte) : Nat → Nat
  | 0 => cellHeat h 0
  | 1 => (2 * cellHeat h 1 + 2 * cellHeat h 0) / 4
  | k + 2 => min ((2 * cellHeat h (k + 2) + 2 * cellHeat h (k + 1) + cellHeat h k) / 4) 255

/-- Fine diffusion (R174): weights 2, 3, 2, 1 over the sum of the weights present. -/
def fineHeat (h : List Byte) : Nat → Nat
  | 0 => cellHeat h 0
  | 1 => (2 * cellHeat h 1 + 3 * cellHeat h 0) / 5
  | 2 => (2 * cellHeat h 2 + 3 * cellHeat h 1 + 2 * cellHeat h 0) / 7
  | k + 3 => (2 * cellHeat h (k + 3) + 3 * cellHeat h (k + 2) + 2 * cellHeat h (k + 1) + cellHeat h k) / 8

/-- `NewValue(h, k)` (R175). -/
def newHeat (grain : FireGrain) (h : List Byte) (k : Nat) : Byte :=
  match grain with
  | .coarse => clamp8 (coarseHeat h k)
  | .fine => clamp8 (fineHeat h k)

/-- `Diffuse()` (R175): every new value is computed from `h`, then all cells are replaced together. -/
def diffuse (grain : FireGrain) (h : List Byte) : List Byte := (List.range h.length).map (newHeat grain h)

/-- `HEAT[y] <- sat_add8(HEAT[y], b)` (R176). -/
def heatCell (h : List Byte) (y b : Nat) : List Byte := h.set y (satAdd8 (h.getD y 0) b)

/-- One spark attempt (R176): one draw, and two more, cell first and boost second, if it fires. -/
def spark (sparking zone : Nat) (h : List Byte) (c : RandomChannel) : Option (List Byte × RandomChannel) :=
  match c.draw 256 with
  | none => none
  | some (r, c₁) =>
    if r < sparking then
      match c₁.draw zone with
      | none => none
      | some (y, c₂) =>
        match c₂.draw 95 with
        | none => none
        | some (v, c₃) => some (heatCell h y (160 + v), c₃)
    else some (h, c₁)

/-- `Ignite()`: the spark attempts one after another (R176). -/
def ignite (sparking zone : Nat) : Nat → List Byte → RandomChannel → Option (List Byte × RandomChannel)
  | 0, h, c => some (h, c)
  | n + 1, h, c =>
    match spark sparking zone h c with
    | none => none
    | some (h₁, c₁) => ignite sparking zone n h₁ c₁

/-- `Cool`, `Diffuse`, `Ignite` of one tick (R170): the new heat field and the channel after the draws; none where a listed answer
is out of range. -/
def fireHeat (p : Params) (h : List Byte) (c : RandomChannel) : Option (List Byte × RandomChannel) :=
  match cool (coolingBound p) h c with
  | none => none
  | some (cooled, c₁) => ignite p.sparking.toNat p.sparkZone p.numSparks (diffuse p.fireGrain cooled) c₁

/-- `idx = (HEAT[k] * 240) div 255` (R178). -/
def heatIndex (t : Byte) : Byte := BitVec.ofNat 8 (t.toNat * 240 / 255)

/-- The cell whose colour LED `i` shows (R171, R178). -/
def cellOfLed (p : Params) (i : Nat) : Nat :=
  match p.fireGrain with
  | .coarse => i / p.tileSize
  | .fine => i

/-- The colour `HeatRender` gives LED `i` (R178). -/
def heatPixel (s : State) (i : Nat) : Rgb := s.sampleCurrent (heatIndex (s.heat.getD (cellOfLed s.cfg i) 0))

/-- `HeatRender()` (R178). -/
def heatRender (s : State) : State := writeFrame (heatPixel s) s

/-- `RunFire(cfg)` (R170). -/
def runFire (s : State) : Host.Outcome State Fault Refusal :=
  match fireHeat s.cfg s.heat s.rnd with
  | none => .refused .randomAnswerOutOfRange
  | some (h, c) => .next (heatRender { s with heat := h, rnd := c })

end Sys2Proof.Machine
end

