-- ==== Sys2Proof/Machine/Run.lean ====
section
/-! DEFINITION. RUN: dispatch and the behaviour while off (spec/42_run_scroll.md R140, R141). -/

namespace Sys2Proof.Machine

/-- `RunOff()` (R141). -/
def runOff (s : State) : State := blackout s

/-- RUN `now` (R140). -/
def execRun (now : BitVec 32) (s : State) : Host.Outcome State Fault Refusal :=
  if s.on then
    match s.modeCfg.strategy with
    | .scroll => .next (runScroll s.modeCfg now s)
    | .crossfade => .next (runCrossfade s.modeCfg now s)
    | .fire => runFire s
  else .next (runOff s)

end Sys2Proof.Machine
end

