-- ==== Sys2Proof/Machine/Dispatch.lean ====
section
/-! DEFINITION. The dispatch: one arm per command. -/

namespace Sys2Proof.Machine

def exec (i : Instr) (s : State) : Host.Outcome State Fault Refusal :=
  match i with
  | .nop => Sys2Proof.Machine.execNop s
  | .setmode mode => Sys2Proof.Machine.execSetmode mode s
  | .run now => Sys2Proof.Machine.execRun now s
  | .off => Sys2Proof.Machine.execOff s
  | .on => Sys2Proof.Machine.execOn s
  | .setbright level => Sys2Proof.Machine.execSetbright level s
  | .setblend blend => Sys2Proof.Machine.execSetblend blend s
  | .sample idx => Sys2Proof.Machine.execSample idx s

end Sys2Proof.Machine
end

