-- ==== Sys2Proof/Machine/Fetch.lean ====
section
/-! DEFINITION. Taking the next input (spec/10_state.md R40, R41, R44, spec/70_reset_and_hazards.md R210, R213). -/

namespace Sys2Proof.Machine

/-- The next input and the state without it; none when nothing waits. -/
def takeInput (s : State) : Option (Input × State) :=
  match s.inputs with
  | [] => none
  | i :: rest => some (i, { s with inputs := rest })

/-- A word that spells no command raises `BadCommand` (R84, R85). -/
def rejectWord (_ : Reject) (s : State) : State := raiseError .badCommand s

/-- Carrying out one command word: decode it, then execute it or raise its error (R87, R88). -/
def runWord (w : CommandWord) (s : State) : Host.Outcome State Fault Refusal :=
  match decode w with
  | .ok i => exec i s
  | .error e => .next (rejectWord e s)

/-- Carrying out one input. -/
def runInput (i : Input) (s : State) : Host.Outcome State Fault Refusal :=
  match i with
  | .command w => runWord w s
  | .reset => .next (applyReset s)
  | .sinkRead addr => .next (sinkRead addr s)

/-- The host presents a word as the very next input (R41). -/
def presentWord (w : CommandWord) (s : State) : State := { s with inputs := .command w :: s.inputs }

end Sys2Proof.Machine
end

