-- ==== Sys2Proof/Machine/Step.lean ====
section
/-! DEFINITION. One step: the block takes one input and carries out the whole of its rule (spec/00_scope.md R14). -/

namespace Sys2Proof.Machine

/-- One step. With no input the block waits (R210). -/
def step (s : State) : Host.Outcome State Fault Refusal :=
  match takeInput s with
  | none => .next s
  | some (i, t) => runInput i t

/-- The state in which the host presents the command word with these table bits next (log entry 7). -/
def State.withFetchWord (s : State) (nbits w : Nat) : State := presentWord (wordOfTableBits nbits w) s

end Sys2Proof.Machine
end

