-- ==== Sys2Proof/Machine/Assembler.lean ====
section
/-! DEFINITION. The textual form of a command stream and its pseudo-instructions (spec/30_encoding.md R89, R90). Text is a list of
characters. What the rules leave open of the form is in log entry 20. -/

namespace Sys2Proof.Machine

/-- "A semicolon starts a comment that runs to the end of the line" (R89). -/
def stripComment : List Char → List Char
  | [] => []
  | c :: cs => if c = ';' then [] else c :: stripComment cs

/-- The words of a line, separated by spaces; `cur` holds the word being read, backwards. -/
def splitWords (cur : List Char) : List Char → List (List Char)
  | [] => if cur = [] then [] else [cur.reverse]
  | c :: cs =>
    if c = ' ' then (if cur = [] then splitWords [] cs else cur.reverse :: splitWords [] cs)
    else splitWords (c :: cur) cs

/-- The value of a digit in base `base`, 10 or 16. -/
def digitValue (base : Nat) (c : Char) : Option Nat :=
  let n := c.toNat
  if 48 ≤ n ∧ n ≤ 57 then some (n - 48)
  else if base = 16 ∧ 65 ≤ n ∧ n ≤ 70 then some (n - 55)
  else if base = 16 ∧ 97 ≤ n ∧ n ≤ 102 then some (n - 87)
  else none

/-- The value of a run of digits, `acc` being what was read before. -/
def digitsValue (base acc : Nat) : List Char → Option Nat
  | [] => some acc
  | c :: cs =>
    match digitValue base c with
    | some d => digitsValue base (acc * base + d) cs
    | none => none

/-- "a decimal number, a hexadecimal number with `0x`" (R89). -/
def numberValue : List Char → Option Nat
  | [] => none
  | ['0', 'x'] => none
  | '0' :: 'x' :: cs => digitsValue 16 0 cs
  | cs => digitsValue 10 0 cs

/-- A number that fits an operand field of `width` bits. -/
def numberOperand (width : Nat) (text : List Char) : Option (BitVec width) :=
  match numberValue text with
  | some n => if n < 2 ^ width then some (BitVec.ofNat width n) else none
  | none => none

/-- The mode names (R90, R124). -/
def modeByName (text : List Char) : Option Mode :=
  if text = "RAINBOW".toList then some .rainbow
  else if text = "RAINBOW_2".toList then some .rainbow2
  else if text = "RAINBOW_3".toList then some .rainbow3
  else if text = "PARTY".toList then some .party
  else if text = "FIRE".toList then some .fire
  else if text = "RANDOM".toList then some .random
  else if text = "SPECTRAL".toList then some .spectral
  else if text = "BRBG".toList then some .brbg
  else if text = "YIYG".toList then some .yiyg
  else none

/-- The operand of SETMODE: a mode name or a number (R90). -/
def modeText (text : List Char) : Option Byte :=
  match modeByName text with
  | some m => some m.code
  | none => numberOperand 8 text

/-- The operand of SETBLEND: `LINEAR`, `STEPPED` or a number (R90). -/
def blendText (text : List Char) : Option (BitVec 1) :=
  if text = "LINEAR".toList then some 1
  else if text = "STEPPED".toList then some 0
  else numberOperand 1 text

/-- A command without operand (R81, R89). -/
def assembleBare (mnemonic : List Char) : Option Instr :=
  if mnemonic = "NOP".toList then some .nop
  else if mnemonic = "OFF".toList then some .off
  else if mnemonic = "ON".toList then some .on
  else none

/-- A command with its operand (R81, R89); `TICK` is `RUN` (R90). -/
def assembleWith (mnemonic operand : List Char) : Option Instr :=
  if mnemonic = "SETMODE".toList then (modeText operand).map .setmode
  else if mnemonic = "RUN".toList ∨ mnemonic = "TICK".toList then (numberOperand 32 operand).map .run
  else if mnemonic = "SETBRIGHT".toList then (numberOperand 8 operand).map .setbright
  else if mnemonic = "SETBLEND".toList then (blendText operand).map .setblend
  else if mnemonic = "SAMPLE".toList then (numberOperand 8 operand).map .sample
  else none

/-- One line: no command, one command, or no text of the form (R89). -/
def assembleLine (line : List Char) : Option (List Instr) :=
  match splitWords [] (stripComment line) with
  | [] => some []
  | [m] => (assembleBare m).map fun i => [i]
  | [m, x] => (assembleWith m x).map fun i => [i]
  | _ => none

/-- A command stream, one command per line (R89), as command words. -/
def assemble : List (List Char) → Option (List CommandWord)
  | [] => some []
  | line :: rest =>
    match assembleLine line, assemble rest with
    | some is, some ws => some (is.map encode ++ ws)
    | _, _ => none

end Sys2Proof.Machine
end

