-- ==== Sys2Proof/Safety.lean ====
section
/-! DEFINITION. The terms in which claims about runs are made: sequences of commands, the invariant of the block, and when the
listed answers of the random source are in range. -/

namespace Sys2Proof.Machine

/-- Commands executed one after another, stopping at the first that has no next state (R70). -/
def execAll : List Instr → State → Host.Outcome State Fault Refusal
  | [], s => .next s
  | i :: rest, s =>
    match exec i s with
    | .next t => execAll rest t
    | .fault f => .fault f
    | .refused r => .refused r

/-- What holds between commands, in every state a run reaches. -/
structure State.Inv (s : State) : Prop where
  /-- `FB` and `HEAT` have their sizes (R60, R68). -/
  memory : Memory.wf s = true
  /-- `SEC_CNT` takes the values 0 to 10 (R31). -/
  secCnt_range : s.secCnt.toNat < 11
  /-- `PERIOD` is the active mode's (R24). -/
  period_of_mode : s.period = s.modeCfg.period
  /-- Off: "rendering suppressed, frame buffer black" (R201). -/
  off_black : s.on = false → s.fb = List.replicate s.cfg.numLeds Rgb.black
  /-- The heat field is cold outside fire modes (R179). -/
  heat_cold : s.modeCfg.strategy ≠ .fire → s.heat = List.replicate s.cfg.cellCount 0
  /-- `OFFSET` stays 0 in a crossfade mode (R125, R160). -/
  crossfade_offset : s.modeCfg.strategy = .crossfade → s.offset = 0
  /-- The mask gate and its counter move only in a masked scroll mode (R142, R143). -/
  mask_idle : ¬ (s.modeCfg.strategy = .scroll ∧ s.modeCfg.masked = true) → s.secCnt = 0 ∧ s.maskGate.armed = false
  /-- The new-target gate moves only in a crossfade mode (R142, R160). -/
  target_idle : s.modeCfg.strategy ≠ .crossfade → s.tgtGate.armed = false
  /-- A catalog mode that does not crossfade shows its catalog palette (R126). -/
  catalog_palette : ∀ id, s.modeCfg.palette = .catalog id → s.modeCfg.strategy ≠ .crossfade →
    s.curPal = s.cfg.catalog.palette id ∧ s.tgtPal = s.cfg.catalog.palette id
  /-- Every bound asked of the random source is one the channel can carry, `1 <= n <= 65535` (R42). -/
  requests_bounded : ∀ n ∈ s.rnd.requests, 1 ≤ n ∧ n ≤ 65535
  /-- Every logged code is an admitted mode's (R203). -/
  log_admitted : ∀ c ∈ s.logOut, c.toNat ≤ 8

/-- The listed answers that the spark attempts of one tick take are in range (R176); after the last listed answer every
answer is a free value, which is in range. -/
def sparkAnswersInRange (sparking zone : Nat) : Nat → List (BitVec 16) → Bool
  | 0, _ => true
  | _ + 1, [] => true
  | n + 1, r :: rest =>
    decide (r.toNat < 256) &&
      if r.toNat < sparking then
        match rest with
        | [] => true
        | [y] => decide (y.toNat < zone)
        | y :: v :: rest₂ =>
          decide (y.toNat < zone) && decide (v.toNat < 95) && sparkAnswersInRange sparking zone n rest₂
      else sparkAnswersInRange sparking zone n rest

/-- The listed answers that one fire tick takes are in range (R172, R176, R217). -/
def fireAnswersInRange (s : State) : Bool :=
  (s.rnd.answers.take s.heat.length).all (fun v => decide (v.toNat < coolingBound s.cfg)) &&
    sparkAnswersInRange s.cfg.sparking.toNat s.cfg.sparkZone s.cfg.numSparks (s.rnd.answers.drop s.heat.length)

end Sys2Proof.Machine
end

