-- ==== Sys2Proof/Certificates/Slice0/Obligations.lean ====
section
/-! DEFINITION. The statements for the provers. Each formalises the rule or the section of spec/ that its docstring names. The first
part holds the few words they are stated in. -/

namespace Sys2Proof.Spec

open Sys2Proof.Machine

/-- Bit `j` of `arg` is one that the format says must be 0 (R82). -/
def mustBeZeroBit : Format → Nat → Prop
  | .Z, j => j < 32
  | .M, j => 8 ≤ j ∧ j < 32
  | .B, j => 8 ≤ j ∧ j < 32
  | .F, j => 1 ≤ j ∧ j < 32
  | .T, _ => False

/-- The word spells no command: R84, R85. -/
def spellsNoCommand (w : CommandWord) : Prop :=
  8 ≤ (opField w).toNat ∨ ∃ o : Opcode, opField w = o.toByte ∧ ∃ j, mustBeZeroBit o.format j ∧ (argField w).getLsbD j = true

/-- Presented next, in any state, the word sets `ERR_CMD` and changes nothing else. -/
def raisesBadCommand (w : CommandWord) : Prop :=
  ∀ s rest, s.inputs = .command w :: rest → step s = .next { s with inputs := rest, errCmd := true }

/-- The three channels of a colour. -/
def channels : List (Rgb → Byte) := [Rgb.r, Rgb.g, Rgb.b]

/-- `|a - b|` of two channel values. -/
def distance (a b : Byte) : Nat := (a.toNat - b.toNat) + (b.toNat - a.toNat)

/-- RUN commands with these timestamps, one after another. -/
def ticks (nows : List (BitVec 32)) : List Instr := nows.map .run

/-- How many of the commands are RUN. -/
def runCount : List Instr → Nat
  | [] => 0
  | .run _ :: rest => runCount rest + 1
  | _ :: rest => runCount rest

/-- RUN renders by this strategy. -/
def runsBy (s : State) (g : Strategy) : Prop := s.on = true ∧ s.modeCfg.strategy = g

/-- `f` applied to the state an outcome leaves, if it leaves one. -/
def mapNext (f : State → State) : Host.Outcome State Fault Refusal → Host.Outcome State Fault Refusal
  | .next t => .next (f t)
  | .fault e => .fault e
  | .refused e => .refused e

/-- One spark attempt as the draws it makes: `r`, and the cell and the `Rand(95)` value if it fires (R176). -/
structure SparkDraws where
  r : Nat
  fired : Option (Nat × Nat)

/-- The draws of a spark attempt in request order. -/
def SparkDraws.values (d : SparkDraws) : List Nat :=
  match d.fired with
  | none => [d.r]
  | some (y, v) => [d.r, y, v]

/-- The bounds the attempt asks for, in request order. -/
def SparkDraws.bounds (zone : Nat) (d : SparkDraws) : List Nat :=
  match d.fired with
  | none => [256]
  | some _ => [256, zone, 95]

/-- The draws are within their bounds, and the spark fires exactly if `r < SPARKING` (R12, R176). -/
def SparkDraws.Legal (sparking zone : Nat) (d : SparkDraws) : Prop :=
  d.r < 256 ∧
  match d.fired with
  | none => ¬ d.r < sparking
  | some (y, v) => d.r < sparking ∧ y < zone ∧ v < 95

/-- What the attempt does to the heat field: `HEAT[y] <- min(HEAT[y] + 160 + v, 255)` if it fires (R176). -/
def SparkDraws.apply (h : List Byte) (d : SparkDraws) : List Byte :=
  match d.fired with
  | none => h
  | some (y, v) => h.set y (BitVec.ofNat 8 (min ((h.getD y 0).toNat + (160 + v)) 255))

/-- `SAMPLE`-like reading of the current palette by the rules of the interpolator. -/
def currentColour (s : State) (idx : Nat) : Rgb :=
  samplePalette s.cfg.steppedSelect s.curPal (BitVec.ofNat 8 (idx % 256)) s.blend

end Sys2Proof.Spec

open Sys2Proof Sys2Proof.Machine Sys2Proof.Spec

/-! Encoding and decoding. -/

/-- Each command has one word and each accepted word is the word of the command it decodes to: no operand bit is dropped
(30_encoding.md section 1, R80 to R83). -/
def Obligations.DecodeIsInverseOfEncode : Prop :=
  ∀ (w : CommandWord) (i : Instr), decode w = .ok i ↔ w = encode i

/-- R88: match and mask name the command of a word; the rows are disjoint; a word matching no row raises `BadCommand`; a word
matching SETMODE is still subject to the mode check. -/
def Obligations.MatchAndMaskNameTheCommand : Prop :=
  ([Opcode.nop, .setmode, .run, .off, .on, .setbright, .setblend, .sample].map (fun o => (o.matchWord, o.maskWord)) =
    [(0x0000000000, 0xFFFFFFFFFF), (0x0100000000, 0xFFFFFFFF00), (0x0200000000, 0xFF00000000), (0x0300000000, 0xFFFFFFFFFF),
     (0x0400000000, 0xFFFFFFFFFF), (0x0500000000, 0xFFFFFFFF00), (0x0600000000, 0xFFFFFFFFFE), (0x0700000000, 0xFFFFFFFF00)]) ∧
  (∀ (o : Opcode) (w : CommandWord), o.matches w = true ↔ w &&& o.maskWord = o.matchWord) ∧
  (∀ (o : Opcode) (w : CommandWord), o.matches w = true ↔ ∃ i, decode w = .ok i ∧ i.opcode = o) ∧
  (∀ (o o' : Opcode) (w : CommandWord), o.matches w = true → o'.matches w = true → o = o') ∧
  (∀ w : CommandWord, (∀ o : Opcode, o.matches w = false) → raisesBadCommand w) ∧
  (∀ (w : CommandWord) (s : State) (rest : List Input), Opcode.setmode.matches w = true → 8 < (w.extractLsb' 0 8).toNat →
    s.inputs = .command w :: rest → step s = .next { s with inputs := rest, errMode := true })

/-- R84 to R87: the checks in their order, for every one of the `2^40` words, and what each outcome does. -/
def Obligations.EveryWordIsOneCommandOrOneError : Prop :=
  ∀ w : CommandWord,
    (spellsNoCommand w → raisesBadCommand w) ∧
    (¬ spellsNoCommand w → opField w = 1 → 8 < (w.extractLsb' 0 8).toNat →
      ∀ (s : State) (rest : List Input), s.inputs = .command w :: rest →
        step s = .next { s with inputs := rest, errMode := true }) ∧
    (¬ spellsNoCommand w → ¬ (opField w = 1 ∧ 8 < (w.extractLsb' 0 8).toNat) →
      ∃ i : Instr, i.wellFormed = true ∧ w = encode i ∧
        ∀ (s : State) (rest : List Input), s.inputs = .command w :: rest → step s = exec i { s with inputs := rest })

/-- Words written out from R81 and R82 decode to the commands they stand for (30_encoding.md sections 1 and 3). -/
def Obligations.WrittenOutWordsDecode : Prop :=
  decode 0x0000000000 = .ok .nop ∧ decode 0x0100000003 = .ok (.setmode 3) ∧ decode 0x02000003E8 = .ok (.run 1000) ∧
  decode 0x0300000000 = .ok .off ∧ decode 0x0400000000 = .ok .on ∧ decode 0x0500000080 = .ok (.setbright 128) ∧
  decode 0x0600000000 = .ok (.setblend 0) ∧ decode 0x070000001D = .ok (.sample 29)

/-- R14, R21, R41: a step takes the next word from the channel and is the execution of the command it decodes to; with nothing
presented the block waits (R210). That the host's words stand in a list in State is the model's choice (log entry 7). -/
def Obligations.StepRunsTheDecodedCommand : Prop :=
  (∀ (s : State) (w : CommandWord) (i : Instr) (rest : List Input),
    s.inputs = .command w :: rest → decode w = .ok i → step s = exec i { s with inputs := rest }) ∧
  (∀ (s : State) (nbits w : Nat) (i : Instr), decodeTableWord nbits w = some i → step (s.withFetchWord nbits w) = exec i s) ∧
  (∀ s : State, s.inputs = [] → step s = .next s)

/-- R90: `TICK` is `RUN`; a mode name is its code; `LINEAR` is 1 and `STEPPED` is 0. -/
def Obligations.PseudoInstructionsExpand : Prop :=
  (∀ x : List Char, assembleLine ("TICK ".toList ++ x) = assembleLine ("RUN ".toList ++ x)) ∧
  (["RAINBOW", "RAINBOW_2", "RAINBOW_3", "PARTY", "FIRE", "RANDOM", "SPECTRAL", "BRBG", "YIYG"].map
      (fun n => assembleLine ("SETMODE ".toList ++ n.toList)) =
    ([0, 1, 2, 3, 4, 5, 6, 7, 8] : List Byte).map (fun c => some [.setmode c])) ∧
  assembleLine "SETBLEND LINEAR".toList = some [.setblend 1] ∧ assembleLine "SETBLEND STEPPED".toList = some [.setblend 0]

/-! The plain commands. -/

/-- R120: NOP reads and writes nothing; any operand bit makes the word a `BadCommand`. -/
def Obligations.NopChangesNothing : Prop :=
  (∀ s : State, exec .nop s = .next s) ∧ decode 0x0000000000 = .ok .nop ∧
  (∀ arg : BitVec 32, arg ≠ 0 → raisesBadCommand (0x00#8 ++ arg))

/-- R129: OFF clears `ON`, blacks every entry of `FB`, leaves everything else; again while off it changes nothing. -/
def Obligations.OffBlacksTheFrame : Prop :=
  (∀ s : State, exec .off s = .next { s with on := false, fb := List.replicate s.cfg.numLeds Rgb.black }) ∧
  (∀ s t : State, exec .off s = .next t → exec .off t = .next t ∧ t.status.getLsbD 0 = false) ∧
  decode 0x0300000000 = .ok .off ∧ (∀ arg : BitVec 32, arg ≠ 0 → raisesBadCommand (0x03#8 ++ arg))

/-- R130: ON sets `ON` and nothing else; `OFF`, `ON`, `RUN t` from a state that is on ends exactly as `RUN t`. -/
def Obligations.OnResumesWhereItLeftOff : Prop :=
  (∀ s : State, exec .on s = .next { s with on := true }) ∧
  (∀ s : State, s.on = true → exec .on s = .next s) ∧
  (∀ (s : State) (now : BitVec 32), s.on = true → execAll [.off, .on, .run now] s = exec (.run now) s) ∧
  decode 0x0400000000 = .ok .on ∧ (∀ arg : BitVec 32, arg ≠ 0 → raisesBadCommand (0x04#8 ++ arg))

/-- R131: SETBRIGHT stores the level; no other command reads `BRIGHT`, so it never scales the frame. -/
def Obligations.BrightnessIsStoredAndNeverRead : Prop :=
  (∀ (s : State) (level : Byte), exec (.setbright level) s = .next { s with bright := level }) ∧
  (∀ (s : State) (level : Byte) (i : Instr), (∀ l, i ≠ .setbright l) →
    exec i { s with bright := level } = mapNext (fun t => { t with bright := level }) (exec i s)) ∧
  (∀ arg : BitVec 32, arg.toNat ≥ 256 → raisesBadCommand (0x05#8 ++ arg))

/-- R111: SETBLEND writes `BLEND` and nothing else; the next SETMODE or reset sets it back to `LINEAR`. -/
def Obligations.SetblendWritesTheFlag : Prop :=
  (∀ s : State, exec (.setblend 1) s = .next { s with blend := .linear }) ∧
  (∀ s : State, exec (.setblend 0) s = .next { s with blend := .stepped }) ∧
  (∀ (s : State) (b : BitVec 1) (m : Byte), m.toNat ≤ 8 →
    ∃ t, execAll [.setblend b, .setmode m] s = .next t ∧ t.blend = .linear) ∧
  (∀ (s : State) (rest : List Input), s.inputs = .reset :: rest → ∃ t, step s = .next t ∧ t.blend = .linear) ∧
  (∀ arg : BitVec 32, arg.toNat ≥ 2 → raisesBadCommand (0x06#8 ++ arg))

/-- R110: SAMPLE writes `RESULT` with `Sample(CUR_PAL, idx, BLEND)` and nothing else, on or off and in every mode. -/
def Obligations.SampleWritesResult : Prop :=
  (∀ (s : State) (idx : Byte), exec (.sample idx) s =
    .next { s with result := samplePalette s.cfg.steppedSelect s.curPal idx s.blend }) ∧
  (∀ arg : BitVec 32, arg.toNat ≥ 256 → raisesBadCommand (0x07#8 ++ arg))

/-! SETMODE and the multiplexer. -/

/-- R125: what SETMODE assigns for an admitted mode, what it leaves, and its two errors. -/
def Obligations.SetmodeAssignsTheConfiguration : Prop :=
  (∀ (s : State) (m : Byte), m.toNat ≤ 8 → ∃ md : Mode, md.code = m ∧
    exec (.setmode m) s = .next { s with
      mode := md
      period := (s.cfg.modeTable.config md).period
      blend := .linear
      offset := 0
      curPal := (resolve s.cfg.catalog (s.cfg.modeTable.config md).palette s.pal).1
      tgtPal := (resolve s.cfg.catalog (s.cfg.modeTable.config md).palette s.pal).2.1
      pal := (resolve s.cfg.catalog (s.cfg.modeTable.config md).palette s.pal).2.2
      heat := List.replicate s.cfg.cellCount 0
      secCnt := 0
      maskGate := { last := s.maskGate.last, armed := false }
      tgtGate := { last := s.tgtGate.last, armed := false }
      logOut := s.logOut ++ [m] }) ∧
  (∀ (s : State) (m : Byte), 8 < m.toNat → exec (.setmode m) s = .next { s with errMode := true }) ∧
  (∀ arg : BitVec 32, arg.toNat ≥ 256 → raisesBadCommand (0x01#8 ++ arg))

/-- R126: the multiplexer gives a catalog palette twice and draws nothing, or draws the current palette first and the target second.
That answers are listed in State is the model's choice (log entry 5). -/
def Obligations.ResolveIsThePaletteMultiplexer : Prop :=
  (∀ (c : Catalog) (id : PaletteId) (p : PaletteChannel),
    resolve c (.catalog id) p = (c.palette id, c.palette id, p)) ∧
  (∀ (c : Catalog) (p : PaletteChannel), (resolve c .randomPair p).2.2.requests = p.requests + 2) ∧
  (∀ (c : Catalog) (a b : BitVec 384) (rest : List (BitVec 384)) (n : Nat),
    resolve c .randomPair ⟨a :: b :: rest, n⟩ = (Palette.ofData a, Palette.ofData b, ⟨rest, n + 2⟩)) ∧
  (∀ (d : BitVec 384) (k j : Nat), k < 16 → j < 24 →
    ((Palette.ofData d).stop k).pack.getLsbD j = d.getLsbD (24 * k + j))

/-- R127: SETMODE succeeds from every state; entering the active catalog mode again does the same once more; `PERIOD` and `BLEND`
are the mode's; the frame buffer waits for the next RUN; the log is read by no command. -/
def Obligations.SetmodeIsAFullReinitialisation : Prop :=
  (∀ (s : State) (md : Mode), ∃ t, exec (.setmode md.code) s = .next t ∧ t.mode = md ∧
    t.period = (s.cfg.modeTable.config md).period ∧ t.blend = .linear ∧ t.fb = s.fb ∧ t.on = s.on) ∧
  (∀ (s t : State) (md : Mode) (id : PaletteId), (s.cfg.modeTable.config md).palette = .catalog id →
    exec (.setmode md.code) s = .next t →
    exec (.setmode md.code) t = .next { t with logOut := t.logOut ++ [md.code] }) ∧
  (∀ (s t : State) (md : Mode), (s.cfg.modeTable.config md).palette = .randomPair →
    exec (.setmode md.code) s = .next t → t.pal.requests = s.pal.requests + 2) ∧
  (∀ (s : State) (l : List Byte) (now : BitVec 32),
    exec (.run now) { s with logOut := l } = mapNext (fun t => { t with logOut := l }) (exec (.run now) s))

/-- R203: the one command that emits a log event is a SETMODE that succeeds, and the event carries the mode code; reset and the
sink emit nothing. -/
def Obligations.OnlyASuccessfulSetmodeLogs : Prop :=
  (∀ (s t : State) (i : Instr), exec i s = .next t → (∀ m, i ≠ .setmode m) → t.logOut = s.logOut) ∧
  (∀ (s t : State) (m : Byte), exec (.setmode m) s = .next t →
    t.logOut = if m.toNat ≤ 8 then s.logOut ++ [m] else s.logOut) ∧
  (∀ (s t : State) (i : Input) (rest : List Input), s.inputs = i :: rest → (∀ w, i ≠ .command w) →
    step s = .next t → t.logOut = s.logOut)

/-! RUN. -/

/-- R141: RUN while off blacks the frame and nothing else happens: no gate, no draw, no offset. -/
def Obligations.RunWhileOffOnlyBlacks : Prop :=
  ∀ (s : State) (now : BitVec 32), s.on = false →
    exec (.run now) s = .next { s with fb := List.replicate s.cfg.numLeds Rgb.black }

/-- The source's off/on property (41_mode_control.md section 4, 42_run_scroll.md section 1): `off()` followed by any number of
`run()` calls leaves one and the same black state, and `on()` then resumes as if the off period had not been. -/
def Obligations.OffPeriodLeavesNoTrace : Prop :=
  (∀ (s : State) (nows : List (BitVec 32)), execAll (.off :: ticks nows) s = exec .off s) ∧
  (∀ (s : State) (nows : List (BitVec 32)) (now : BitVec 32), s.on = true →
    execAll (.off :: ticks nows ++ [.on, .run now]) s = exec (.run now) s)

/-- R142: the gate, its difference modulo `2^32`; and the gates move only under the strategy that owns them, while on, or under SETMODE. -/
def Obligations.GateFiresOnThePeriod : Prop :=
  (∀ (g : Gate) (now p : BitVec 32), g.armed = false → gate g now p = (false, { last := now, armed := true })) ∧
  (∀ (g : Gate) (now p : BitVec 32), g.armed = true →
    p.toNat ≤ (now.toNat + 2 ^ 32 - g.last.toNat) % 2 ^ 32 → gate g now p = (true, { last := now, armed := true })) ∧
  (∀ (g : Gate) (now p : BitVec 32), g.armed = true →
    (now.toNat + 2 ^ 32 - g.last.toNat) % 2 ^ 32 < p.toNat → gate g now p = (false, g)) ∧
  (∀ (s t : State) (now : BitVec 32), exec (.run now) s = .next t →
    ¬ (runsBy s .scroll ∧ s.modeCfg.masked = true) → t.maskGate = s.maskGate) ∧
  (∀ (s t : State) (now : BitVec 32), exec (.run now) s = .next t → ¬ runsBy s .crossfade → t.tgtGate = s.tgtGate)

/-- R143, R144: the offset, the mask gate and counter, every pixel, and the frame of what stays. -/
def Obligations.RunScrollResult : Prop :=
  ∀ (s : State) (now : BitVec 32), runsBy s .scroll →
    ∃ t, exec (.run now) s = .next t ∧
      t = { s with offset := t.offset, maskGate := t.maskGate, secCnt := t.secCnt, fb := t.fb } ∧
      (t.offset.toNat : Int) = (s.offset.toNat + s.modeCfg.delta.toInt) % 256 ∧
      (s.modeCfg.masked = false → t.maskGate = s.maskGate ∧ t.secCnt = s.secCnt) ∧
      (s.modeCfg.masked = true → t.maskGate = (gate s.maskGate now s.cfg.maskPeriodMs).2 ∧
        t.secCnt.toNat = if (gate s.maskGate now s.cfg.maskPeriodMs).1 then (s.secCnt.toNat + 1) % 11 else s.secCnt.toNat) ∧
      t.fb.length = s.cfg.numLeds ∧
      ∀ i, i < s.cfg.numLeds → t.fb[i]? = some
        (if s.modeCfg.masked = true ∧ (i + t.secCnt.toNat) % 11 < 5 then Rgb.black
         else currentColour s (i / s.cfg.tileSize * (s.modeCfg.range.toNat / s.cfg.numTiles) + t.offset.toNat))

/-- R145: an unmasked render gives every LED of tile `k` the sample at `(k * stride + OFFSET) mod 256`. -/
def Obligations.UnmaskedTilesAreFlat : Prop :=
  ∀ (s t : State) (now : BitVec 32), runsBy s .scroll → s.modeCfg.masked = false → exec (.run now) s = .next t →
    ∀ k j, k < s.cfg.numTiles → j < s.cfg.tileSize → t.fb[k * s.cfg.tileSize + j]? =
      some (currentColour s (k * (s.modeCfg.range.toNat / s.cfg.numTiles) + t.offset.toNat))

/-- R146: in a scroll mode, with no OFF and no SETMODE in between and whatever other commands stand among them, after `N` RUNs
`OFFSET = (OFFSET_0 + N * delta) mod 256`; a RUN while off does not count. -/
def Obligations.OffsetLaw : Prop :=
  (∀ (s : State) (cmds : List Instr), runsBy s .scroll → (∀ i ∈ cmds, i ≠ .off ∧ ∀ m, i ≠ .setmode m) →
    ∃ t, execAll cmds s = .next t ∧
      (t.offset.toNat : Int) = (s.offset.toNat + runCount cmds * s.modeCfg.delta.toInt) % 256) ∧
  (∀ (s t : State) (now : BitVec 32), s.on = false → exec (.run now) s = .next t → t.offset = s.offset)

/-- R160: offset to 0, all 48 channels nudged toward the old target, a new target only if the gate fires, an unmasked render
of the nudged palette, and the frame of what stays. -/
def Obligations.RunCrossfadeResult : Prop :=
  ∀ (s : State) (now : BitVec 32), runsBy s .crossfade →
    ∃ t, exec (.run now) s = .next t ∧
      t = { s with offset := 0, curPal := t.curPal, tgtPal := t.tgtPal, tgtGate := t.tgtGate, pal := t.pal, fb := t.fb } ∧
      (∀ k, k < 16 → ∀ c ∈ channels, c (t.curPal.stop k) = nudge s.modeCfg.step.toNat (c (s.curPal.stop k)) (c (s.tgtPal.stop k))) ∧
      t.tgtGate = (gate s.tgtGate now s.cfg.targetPeriodMs).2 ∧
      ((gate s.tgtGate now s.cfg.targetPeriodMs).1 = false → t.tgtPal = s.tgtPal ∧ t.pal = s.pal) ∧
      ((gate s.tgtGate now s.cfg.targetPeriodMs).1 = true → t.tgtPal = s.pal.draw.1 ∧ t.pal = s.pal.draw.2) ∧
      t.fb.length = s.cfg.numLeds ∧
      ∀ i, i < s.cfg.numLeds → t.fb[i]? = some (currentColour t (i / s.cfg.tileSize * (s.modeCfg.range.toNat / s.cfg.numTiles)))

/-- R161: the three cases of the nudge; it never passes the target. -/
def Obligations.NudgeMovesByTheStep : Prop :=
  (∀ (x t : Byte) (s : Nat), x.toNat < t.toNat → (nudge s x t).toNat = min (x.toNat + s) t.toNat) ∧
  (∀ (x t : Byte) (s : Nat), t.toNat < x.toNat → ((nudge s x t).toNat : Int) = max ((x.toNat : Int) - s) t.toNat) ∧
  (∀ (t : Byte) (s : Nat), nudge s t t = t) ∧
  (∀ (x t : Byte) (s : Nat), distance (nudge s x t) t = distance x t - s)

/-- R162 (a), (b): while no new target is drawn, after `n` ticks each channel is within `max(|x_0 - t| - n * s, 0)` of its target;
the palettes are equal once `n * s` reaches 255, and stay so. -/
def Obligations.CrossfadeConverges : Prop :=
  (∀ (s t : State) (nows : List (BitVec 32)), runsBy s .crossfade → execAll (ticks nows) s = .next t →
    t.pal.requests = s.pal.requests →
    t.tgtPal = s.tgtPal ∧
    (∀ k, k < 16 → ∀ c ∈ channels, distance (c (t.curPal.stop k)) (c (s.tgtPal.stop k)) ≤
      distance (c (s.curPal.stop k)) (c (s.tgtPal.stop k)) - nows.length * s.modeCfg.step.toNat) ∧
    (255 ≤ nows.length * s.modeCfg.step.toNat → t.curPal = t.tgtPal)) ∧
  (∀ (s t : State) (now : BitVec 32), runsBy s .crossfade → s.curPal = s.tgtPal → exec (.run now) s = .next t →
    t.curPal = s.curPal)

/-- R163: the first RUN after SETMODE arms the gate with its `now` and draws nothing; no RUN draws until the first whose `now` is at
least `TARGET_PERIOD_MS` later than that, and that one draws the new target. -/
def Obligations.FirstNewTargetWaitsForThePeriod : Prop :=
  ∀ (s : State) (md : Mode) (n₀ : BitVec 32) (waits : List (BitVec 32)) (n₁ : BitVec 32), s.on = true →
    (s.cfg.modeTable.config md).strategy = .crossfade →
    (∀ w ∈ waits, (w.toNat + 2 ^ 32 - n₀.toNat) % 2 ^ 32 < s.cfg.targetPeriodMs.toNat) →
    ∃ t u v, exec (.setmode md.code) s = .next t ∧ execAll (ticks (n₀ :: waits)) t = .next u ∧ exec (.run n₁) u = .next v ∧
      u.tgtPal = t.tgtPal ∧ u.pal = t.pal ∧ u.tgtGate = { last := n₀, armed := true } ∧
      (s.cfg.targetPeriodMs.toNat ≤ (n₁.toNat + 2 ^ 32 - n₀.toNat) % 2 ^ 32 →
        v.tgtPal = u.pal.draw.1 ∧ v.pal = u.pal.draw.2 ∧ v.pal.requests = u.pal.requests + 1) ∧
      ((n₁.toNat + 2 ^ 32 - n₀.toNat) % 2 ^ 32 < s.cfg.targetPeriodMs.toNat → v.tgtPal = t.tgtPal ∧ v.pal = t.pal)

/-- RUN in the fire strategy completes exactly if the listed answers it takes are in range (70_reset_and_hazards.md section 2, R217;
93_implementation_defined.md U4); with no answer listed it always completes, on free values (the model's choice, log entry 4). -/
def Obligations.FireCompletesOnAnswersInRange : Prop :=
  (∀ (s : State) (now : BitVec 32), runsBy s .fire → fireAnswersInRange s = true → ∃ t, exec (.run now) s = .next t) ∧
  (∀ (s : State) (now : BitVec 32), runsBy s .fire → fireAnswersInRange s = false →
    exec (.run now) s = .refused .randomAnswerOutOfRange) ∧
  (∀ (s : State) (now : BitVec 32), runsBy s .fire → s.rnd.answers = [] → ∃ t, exec (.run now) s = .next t)

/-- R170 to R178: a fire tick is cooling by one draw per cell in ascending order, diffusion, the spark attempts with their draws,
and the heat map; the draws are the listed answers as far as those go (log entry 4), asked for in pseudocode order; nothing else changes. -/
def Obligations.FireTickFollowsItsDraws : Prop :=
  ∀ (s t : State) (now : BitVec 32), Memory.wf s = true → runsBy s .fire → exec (.run now) s = .next t →
    t = { s with heat := t.heat, rnd := t.rnd, fb := t.fb } ∧
    ∃ (ds : List Nat) (sparks : List SparkDraws),
      ds.length = s.cfg.cellCount ∧ (∀ d ∈ ds, d < s.cfg.cooling.toNat * 10 / s.cfg.cellCount + 2) ∧
      sparks.length = s.cfg.numSparks ∧ (∀ d ∈ sparks, d.Legal s.cfg.sparking.toNat s.cfg.sparkZone) ∧
      t.heat = sparks.foldl SparkDraws.apply
        (diffuse s.cfg.fireGrain (List.zipWith (fun h d => BitVec.ofNat 8 (h.toNat - d)) s.heat ds)) ∧
      t.rnd.requests = s.rnd.requests ++
        (List.replicate s.cfg.cellCount (s.cfg.cooling.toNat * 10 / s.cfg.cellCount + 2) ++
          sparks.flatMap (SparkDraws.bounds s.cfg.sparkZone)) ∧
      t.rnd.answers = s.rnd.answers.drop (ds ++ sparks.flatMap SparkDraws.values).length ∧
      (∀ (j : Nat) (a : BitVec 16) (d : Nat), s.rnd.answers[j]? = some a → (ds ++ sparks.flatMap SparkDraws.values)[j]? = some d → d = a.toNat) ∧
      t.fb.length = s.cfg.numLeds ∧
      ∀ i, i < s.cfg.numLeds → t.fb[i]? = some
        (currentColour s ((t.heat.getD (match s.cfg.fireGrain with | .coarse => i / s.cfg.tileSize | .fine => i) 0).toNat * 240 / 255))

/-- R173: the coarse kernel, its two boundary cells, its clamp. -/
def Obligations.CoarseDiffusionKernel : Prop :=
  ∀ h : List Byte, (diffuse .coarse h).length = h.length ∧
    (∀ k, k < h.length → ∃ v, (diffuse .coarse h)[k]? = some v ∧
      (k = 0 → some v = h[0]?) ∧
      (k = 1 → v.toNat = (2 * (h.getD 1 0).toNat + 2 * (h.getD 0 0).toNat) / 4) ∧
      (2 ≤ k → v.toNat =
        min ((2 * (h.getD k 0).toNat + 2 * (h.getD (k - 1) 0).toNat + 1 * (h.getD (k - 2) 0).toNat) / 4) 255))

/-- R174: the fine kernel with the weights present at the boundary; a true average, so no clamp acts. -/
def Obligations.FineDiffusionKernel : Prop :=
  ∀ h : List Byte, (diffuse .fine h).length = h.length ∧
    (∀ k, k < h.length → ∃ v, (diffuse .fine h)[k]? = some v ∧
      (k = 0 → some v = h[0]?) ∧
      (k = 1 → v.toNat = (2 * (h.getD 1 0).toNat + 3 * (h.getD 0 0).toNat) / 5) ∧
      (k = 2 → v.toNat = (2 * (h.getD 2 0).toNat + 3 * (h.getD 1 0).toNat + 2 * (h.getD 0 0).toNat) / 7) ∧
      (3 ≤ k → v.toNat = (2 * (h.getD k 0).toNat + 3 * (h.getD (k - 1) 0).toNat + 2 * (h.getD (k - 2) 0).toNat +
        1 * (h.getD (k - 3) 0).toNat) / 8))

/-- R175: every new value is of the field as it stood; replacing cell by cell from `CellCount-1` down to 0 gives the same field; from 0 upward it does not. -/
def Obligations.DescendingInPlaceDiffusionAgrees : Prop :=
  (∀ (g : FireGrain) (h : List Byte) (k : Nat), k < h.length → (diffuse g h)[k]? = some (newHeat g h k)) ∧
  (∀ (g : FireGrain) (h : List Byte),
    (List.range h.length).reverse.foldl (fun cur k => cur.set k (newHeat g cur k)) h = diffuse g h) ∧
  (∀ g : FireGrain, ∃ h : List Byte,
    (List.range h.length).foldl (fun cur k => cur.set k (newHeat g cur k)) h ≠ diffuse g h)

/-- R177: heat arithmetic never wraps: each result, read as a number, is the exact saturated value, and fine diffusion never
exceeds the hottest cell. -/
def Obligations.HeatArithmeticNeverWraps : Prop :=
  (∀ (a : Byte) (d : Nat), ((satSub8 a d).toNat : Int) = max ((a.toNat : Int) - d) 0) ∧
  (∀ (a : Byte) (d : Nat), (satAdd8 a d).toNat = min (a.toNat + d) 255) ∧
  (∀ (h : List Byte) (k : Nat), (newHeat .coarse h k).toNat = min (coarseHeat h k) 255) ∧
  (∀ (h : List Byte) (k m : Nat), (∀ v ∈ h, v.toNat ≤ m) → (newHeat .fine h k).toNat = fineHeat h k ∧ fineHeat h k ≤ m)

/-- R178: the heat map goes from `[0,255]` to `[0,240]`, exact at both ends, non-decreasing, the floor of `t * 240 / 255`. -/
def Obligations.HeatMapReachesExactly240 : Prop :=
  heatIndex 0 = 0 ∧ heatIndex 255 = 240 ∧
  (∀ t : Byte, (heatIndex t).toNat = t.toNat * 240 / 255 ∧ (heatIndex t).toNat ≤ 240) ∧
  (∀ t u : Byte, t.toNat ≤ u.toNat → (heatIndex t).toNat ≤ (heatIndex u).toNat) ∧
  (∀ (p : Palette) (t : Byte), heatIndex t = 240 → samplePalette .lower p (heatIndex t) .linear = p.stop 15)

/-- R179: the heat field is changed only by RUN in the fire strategy and cleared by every SETMODE; OFF, ON and RUN while off leave it. -/
def Obligations.HeatPersistsOutsideFire : Prop :=
  (∀ (s t : State) (i : Instr), exec i s = .next t → t.heat ≠ s.heat →
    (∃ now, i = .run now ∧ runsBy s .fire) ∨ (∃ m : Byte, i = .setmode m ∧ m.toNat ≤ 8)) ∧
  (∀ (s : State) (m : Byte), m.toNat ≤ 8 →
    ∃ t, exec (.setmode m) s = .next t ∧ t.heat = List.replicate s.cfg.cellCount 0) ∧
  (∀ (s t : State) (i : Instr), exec i s = .next t → i = .off ∨ i = .on ∨ ((∃ now, i = .run now) ∧ s.on = false) → t.heat = s.heat)

/-- R172: the cooling bound lies between 2 and 2552 in every instance. -/
def Obligations.CoolingBoundIsBetween2And2552 : Prop :=
  ∀ p : LegalParams, coolingBound p.val = p.val.cooling.toNat * 10 / p.val.cellCount + 2 ∧
    2 ≤ coolingBound p.val ∧ coolingBound p.val ≤ 2552 ∧ 1 ≤ p.val.cellCount ∧ 1 ≤ p.val.numTiles

/-- R214: no rule but the gates reads `now`: unmasked scroll and fire are indifferent to it, and so is RUN while off. -/
def Obligations.GatelessModesIgnoreTheTimestamp : Prop :=
  ∀ (s : State) (a b : BitVec 32),
    (s.on = false ∨ (s.modeCfg.strategy = .scroll ∧ s.modeCfg.masked = false) ∨ s.modeCfg.strategy = .fire) →
    exec (.run a) s = exec (.run b) s

/-! The interpolator. -/

/-- R101 to R103: each channel of a linear sample, the last segment blending toward stop 0. -/
def Obligations.LinearSampleChannels : Prop :=
  ∀ (p : Palette) (sel : SteppedSelect) (idx : Byte), ∀ c ∈ channels,
    (c (samplePalette sel p idx .linear)).toNat =
      ((c (p.stop (idx.toNat / 16))).toNat * (16 - idx.toNat % 16) +
        (c (p.stop ((idx.toNat / 16 + 1) % 16))).toNat * (idx.toNat % 16)) / 16

/-- R104: a stepped sample is one stop unchanged, chosen by `STEPPED_SELECT`. -/
def Obligations.SteppedSampleIsOneStop : Prop :=
  ∀ (p : Palette) (idx : Byte),
    samplePalette .lower p idx .stepped = p.stop (idx.extractLsb' 4 4).toNat ∧
    samplePalette .nearest p idx .stepped = p.stop ((idx.toNat + 8) / 16 % 16) ∧
    (248 ≤ idx.toNat → samplePalette .nearest p idx .stepped = p.stop 0) ∧
    (∀ k, k < 16 → 16 * k ≤ idx.toNat + 8 → idx.toNat ≤ 16 * k + 7 → samplePalette .nearest p idx .stepped = p.stop k)

/-- R106 item 1: exact at the stops, stepped (`LOWER`) and linear alike. -/
def Obligations.SampleIsExactAtStops : Prop :=
  ∀ (p : Palette) (k : Nat) (b : Blend), k < 16 → samplePalette .lower p (BitVec.ofNat 8 (16 * k)) b = p.stop k

/-- R106 item 2: each channel lies between its two stops. -/
def Obligations.SampleStaysBetweenItsStops : Prop :=
  ∀ (p : Palette) (idx : Byte), ∀ c ∈ channels,
    let a := (c (p.stop (idx.toNat / 16))).toNat
    let b := (c (p.stop (idx.toNat / 16 + 1))).toNat
    min a b ≤ (c (sampleLinear p idx)).toNat ∧ (c (sampleLinear p idx)).toNat ≤ max a b

/-- R106 item 3, as the spec words it for both directions. It does not follow from R102: a falling channel whose two stops differ by
less than 16 reaches `b` inside the segment, because the one rounding is a floor (log entry 23). -/
def Obligations.SampleNeverReachesNextStopInside : Prop :=
  ∀ (p : Palette) (idx : Byte), ∀ c ∈ channels,
    c (p.stop (idx.toNat / 16)) ≠ c (p.stop (idx.toNat / 16 + 1)) →
    c (sampleLinear p idx) ≠ c (p.stop (idx.toNat / 16 + 1))

/-- R106 items 4 and 6: consecutive indices differ by at most `(|b.c - a.c| + 15) div 16`, also across a stop boundary and the
wrap; in a segment the channel moves toward the next stop and never back. -/
def Obligations.SampleIsContinuousAndMonotone : Prop :=
  (∀ (p : Palette) (idx : Byte), ∀ c ∈ channels,
    distance (c (sampleLinear p (idx + 1))) (c (sampleLinear p idx)) ≤
      (distance (c (p.stop (idx.toNat / 16 + 1))) (c (p.stop (idx.toNat / 16))) + 15) / 16) ∧
  (∀ (p : Palette) (k f g : Nat), k < 16 → f ≤ g → g < 16 → ∀ c ∈ channels,
    ((c (p.stop k)).toNat ≤ (c (p.stop (k + 1))).toNat →
      (c (sampleLinear p (BitVec.ofNat 8 (16 * k + f)))).toNat ≤ (c (sampleLinear p (BitVec.ofNat 8 (16 * k + g)))).toNat) ∧
    ((c (p.stop (k + 1))).toNat ≤ (c (p.stop k)).toNat →
      (c (sampleLinear p (BitVec.ofNat 8 (16 * k + g)))).toNat ≤ (c (sampleLinear p (BitVec.ofNat 8 (16 * k + f)))).toNat))

/-- R106 item 5: with equal first and last stops, the samples at 255 and at 0 are that stop. -/
def Obligations.SampleWrapsAroundSeamlessly : Prop :=
  ∀ p : Palette, p.stop 15 = p.stop 0 → sampleLinear p 255 = p.stop 0 ∧ sampleLinear p 0 = p.stop 0

/-! Memory and the ports. -/

/-- R61, R62: an entry written is the entry read, and a write leaves every other entry; a loop of writes over all indices is the
one-step frame write of the model (log entry 11). -/
def Obligations.FrameBufferReadsWhatWasWritten : Prop :=
  (∀ (s : State) (i : Nat) (v : Rgb), i < s.fb.length → memRead (memWrite i v s) i = some v) ∧
  (∀ (s : State) (i j : Nat) (v : Rgb), i ≠ j → memRead (memWrite i v s) j = memRead s j) ∧
  (∀ (s : State) (f : Nat → Rgb), s.fb.length = s.cfg.numLeds → writeFrameLoop f s = writeFrame f s)

/-- R44, R61: the sink reads the packed entry at its address, and the read changes nothing but the record of what was read
(the model's choice, as is the free value where there is no entry: log entry 9). -/
def Obligations.SinkReadsTheFrame : Prop :=
  (∀ (s : State) (addr : BitVec 16) (rest : List Input) (c : Rgb), s.inputs = .sinkRead addr :: rest →
    s.fb[addr.toNat]? = some c →
    step s = .next { s with inputs := rest, sinkOut := s.sinkOut ++ [c.r ++ c.g ++ c.b] }) ∧
  (∀ (s : State) (addr : BitVec 16) (rest : List Input), s.inputs = .sinkRead addr :: rest →
    ∃ d, step s = .next { s with inputs := rest, sinkOut := s.sinkOut ++ [d] })

/-- R36, R45: the bits of `STATUS` and the status port. -/
def Obligations.StatusShowsTheFlags : Prop :=
  ∀ s : State,
    s.status.getLsbD 0 = s.on ∧ (s.status.getLsbD 1 = true ↔ s.blend = .linear) ∧
    s.status.getLsbD 2 = s.errCmd ∧ s.status.getLsbD 3 = s.errMode ∧ (∀ j, 4 ≤ j → s.status.getLsbD j = false) ∧
    s.statusPort.stMode = s.mode.code ∧ s.statusPort.stPeriod = s.period ∧ s.statusPort.stBright = s.bright ∧
    s.statusPort.stStatus = s.status ∧ s.statusPort.stResult = s.result.r ++ s.result.g ++ s.result.b

/-! Errors, who writes what, draws. -/

/-- R191, R192, R193: a command word that is refused changes nothing but its flag, and at most one flag is set per command (R196). -/
def Obligations.ErrorsChangeOnlyTheirFlag : Prop :=
  ∀ (s t : State) (w : CommandWord) (rest : List Input), s.inputs = .command w :: rest → step s = .next t →
    (t.errCmd ≠ s.errCmd → t = { s with inputs := rest, errCmd := true }) ∧
    (t.errMode ≠ s.errMode → t = { s with inputs := rest, errMode := true })

/-- R35, R198: a set flag stays set through every step but reset. -/
def Obligations.ErrorFlagsAreSticky : Prop :=
  ∀ s t : State, step s = .next t → (∀ rest, s.inputs ≠ .reset :: rest) →
    (s.errCmd = true → t.errCmd = true) ∧ (s.errMode = true → t.errMode = true)

/-- R39: the writer table. Each element is unchanged by every command for which the table has a dash. -/
def Obligations.WriterTable : Prop :=
  ∀ (s t : State) (i : Instr), exec i s = .next t →
    let admitted := ∃ m : Byte, i = .setmode m ∧ m.toNat ≤ 8
    let running := fun g => ∃ now, i = .run now ∧ runsBy s g
    (t.mode ≠ s.mode ∨ t.period ≠ s.period → admitted) ∧
    (t.blend ≠ s.blend → admitted ∨ ∃ b, i = .setblend b) ∧
    (t.offset ≠ s.offset → admitted ∨ running .scroll ∨ running .crossfade) ∧
    (t.curPal ≠ s.curPal ∨ t.tgtPal ≠ s.tgtPal → admitted ∨ running .crossfade) ∧
    (t.heat ≠ s.heat → admitted ∨ running .fire) ∧
    (t.secCnt ≠ s.secCnt ∨ t.maskGate ≠ s.maskGate → admitted ∨ (running .scroll ∧ s.modeCfg.masked = true)) ∧
    (t.maskGate.last ≠ s.maskGate.last → running .scroll) ∧
    (t.tgtGate ≠ s.tgtGate → admitted ∨ running .crossfade) ∧
    (t.tgtGate.last ≠ s.tgtGate.last → running .crossfade) ∧
    (t.on ≠ s.on → i = .off ∨ i = .on) ∧
    (t.bright ≠ s.bright → ∃ l, i = .setbright l) ∧
    (t.result ≠ s.result → ∃ x, i = .sample x) ∧
    t.errCmd = s.errCmd ∧
    (t.errMode ≠ s.errMode → ∃ m : Byte, i = .setmode m ∧ 8 < m.toNat) ∧
    (t.fb ≠ s.fb → (∃ now, i = .run now) ∨ i = .off) ∧
    ((∃ now, i = .run now) ∨ i = .off → t.fb.length = s.cfg.numLeds) ∧
    t.inputs = s.inputs ∧ t.sinkOut = s.sinkOut

/-- R12, R13: draws are consumed where the rules make them "and in no other circumstances", each call one draw. -/
def Obligations.DrawsOnlyWhereTheRulesCall : Prop :=
  ∀ (s t : State) (i : Instr), exec i s = .next t →
    (t.rnd ≠ s.rnd → ∃ now, i = .run now ∧ runsBy s .fire) ∧
    (t.pal ≠ s.pal →
      (∃ md : Mode, i = .setmode md.code ∧ (s.cfg.modeTable.config md).palette = .randomPair ∧
        t.pal.requests = s.pal.requests + 2) ∨
      (∃ now, i = .run now ∧ runsBy s .crossfade ∧ (gate s.tgtGate now s.cfg.targetPeriodMs).1 = true ∧
        t.pal.requests = s.pal.requests + 1))

/-- 00_scope.md section 3: the parameters "are configuration, not state: no command changes them", nor does anything else. That they stand
in State is the model's choice (log entry 1). -/
def Obligations.ParametersNeverChange : Prop :=
  ∀ s t : State, step s = .next t → t.params = s.params

/-- R124: the codes 0 to 8 name the nine modes, each its own; 9 to 255 name none. -/
def Obligations.ModeCodesAreZeroToEight : Prop :=
  (∀ (c : Byte) (m : Mode), Mode.ofCode c = some m ↔ m.code = c) ∧
  (∀ c : Byte, Mode.ofCode c = none ↔ 8 < c.toNat) ∧
  [Mode.rainbow, .rainbow2, .rainbow3, .party, .fire, .random, .spectral, .brbg, .yiyg].map Mode.code =
    [0, 1, 2, 3, 4, 5, 6, 7, 8]

/-! Reset and the invariant. -/

/-- R47, R210, R211: a reset step gives every element its reset value from any state, with the draws of SETMODE and no log event. -/
def Obligations.ResetGivesEveryElementItsValue : Prop :=
  ∀ (s : State) (rest : List Input), s.inputs = .reset :: rest → ∃ t, step s = .next t ∧
    let p := s.cfg
    let cfg0 := p.modeTable.config p.defaultMode
    t.mode = p.defaultMode ∧ t.period = cfg0.period ∧ t.blend = .linear ∧ t.offset = 0 ∧
    (t.curPal, t.tgtPal, t.pal) = resolve p.catalog cfg0.palette s.pal ∧
    (∀ id, cfg0.palette = .catalog id →
      t.curPal = p.catalog.palette id ∧ t.tgtPal = p.catalog.palette id ∧ t.pal = s.pal) ∧
    (cfg0.palette = .randomPair → t.pal.requests = s.pal.requests + 2) ∧
    t.heat = List.replicate p.cellCount 0 ∧ t.secCnt = 0 ∧
    t.maskGate = { last := 0, armed := false } ∧ t.tgtGate = { last := 0, armed := false } ∧
    t.on = true ∧ t.bright = 255 ∧ t.result = Rgb.black ∧ t.errCmd = false ∧ t.errMode = false ∧
    t.fb = List.replicate p.numLeds Rgb.black ∧ t.logOut = s.logOut ∧ t.params = s.params ∧ t.inputs = rest ∧ t.rnd = s.rnd

/-- 70_reset_and_hazards.md R210 and R47 for the instance `State.reset` is of: its defaults are the spec's, its open parameters the
model's constants (log entry 2), so only what does not depend on those is said. -/
def Obligations.ResetStateShowsTheDefaults : Prop :=
  State.reset.mode = .rainbow ∧ State.reset.period = 10 ∧ State.reset.status = 0x03 ∧ State.reset.bright = 255 ∧
  State.reset.curPal = State.reset.cfg.catalog.palette .rainbowP ∧ State.reset.tgtPal = State.reset.curPal ∧
  (∀ i, i < State.reset.cfg.numLeds → memRead State.reset i = some Rgb.black) ∧
  (∀ k, k < State.reset.cfg.cellCount → State.reset.heat[k]? = some 0)

/-- The invariant holds in the reset state (its clauses name their rules in `State.Inv`). -/
def Obligations.ResetStateMeetsTheInvariant : Prop := State.reset.Inv

/-- The invariant is kept by every step from every state that meets it: a command, an error, a reset, a sink read, a wait. -/
def Obligations.EveryStepKeepsTheInvariant : Prop :=
  ∀ s t : State, s.Inv → step s = .next t → t.Inv
end

