-- ==== Sys2Proof/Laws/Arith.lean ====
section
/-! SUPPORT. The arithmetic of the block read as naturals (spec/00_scope.md R11, R15): no narrowing loses a bit. -/

namespace Sys2Proof.Machine

theorem satSub8_toNat (a : Byte) (d : Nat) : (satSub8 a d).toNat = a.toNat - d := by
  have := a.isLt
  simp [satSub8, Nat.mod_eq_of_lt (show a.toNat - d < 256 by omega)]

theorem satAdd8_toNat (a : Byte) (d : Nat) : (satAdd8 a d).toNat = min (a.toNat + d) 255 := by
  simp [satAdd8, Nat.mod_eq_of_lt (show min (a.toNat + d) 255 < 256 by omega)]

theorem clamp8_toNat (v : Nat) : (clamp8 v).toNat = min v 255 := by
  simp [clamp8, Nat.mod_eq_of_lt (show min v 255 < 256 by omega)]

theorem gate_unarmed (g : Gate) (now p : BitVec 32) (h : g.armed = false) :
    gate g now p = (false, { last := now, armed := true }) := by simp [gate, h]

theorem gate_fires (g : Gate) (now p : BitVec 32) (h : g.armed = true) (hp : p.toNat ≤ (now - g.last).toNat) :
    gate g now p = (true, { last := now, armed := true }) := by
  simp only [gate, h, hp, if_true]

theorem gate_waits (g : Gate) (now p : BitVec 32) (h : g.armed = true) (hp : (now - g.last).toNat < p.toNat) :
    gate g now p = (false, g) := by
  simp only [gate, h, Nat.not_le.mpr hp, if_true, if_false]

/-- A gate evaluated is armed afterwards. -/
theorem gate_armed (g : Gate) (now p : BitVec 32) : (gate g now p).2.armed = true := by
  unfold gate; split
  · split <;> simp_all
  · rfl

/-- The weighted sum of one blended channel is at most `16 * 255` (R15). -/
theorem blendChannel_toNat (f : Nat) (a b : Byte) (hf : f ≤ 16) :
    (blendChannel f a b).toNat = (a.toNat * (16 - f) + b.toNat * f) / 16 := by
  have ha := a.isLt
  have hb := b.isLt
  have h1 : a.toNat * (16 - f) ≤ 255 * (16 - f) := Nat.mul_le_mul_right _ (by omega)
  have h2 : b.toNat * f ≤ 255 * f := Nat.mul_le_mul_right _ (by omega)
  simp only [blendChannel, BitVec.toNat_ofNat, Nat.shiftRight_eq_div_pow]
  exact Nat.mod_eq_of_lt (by omega)

theorem nudge_below (s : Nat) (x t : Byte) (h : x.toNat < t.toNat) : (nudge s x t).toNat = min (x.toNat + s) t.toNat := by
  have := t.isLt
  simp only [nudge, h, if_true, BitVec.toNat_ofNat]
  exact Nat.mod_eq_of_lt (by omega)

theorem nudge_above (s : Nat) (x t : Byte) (h : t.toNat < x.toNat) : (nudge s x t).toNat = max (x.toNat - s) t.toNat := by
  have := x.isLt
  simp only [nudge, Nat.not_lt.mpr h.le, h, if_true, if_false, BitVec.toNat_ofNat]
  exact Nat.mod_eq_of_lt (by omega)

@[simp] theorem nudge_self (s : Nat) (t : Byte) : nudge s t t = t := by simp [nudge]

theorem heatIndex_toNat (t : Byte) : (heatIndex t).toNat = t.toNat * 240 / 255 := by
  have := t.isLt
  simp only [heatIndex, BitVec.toNat_ofNat]
  exact Nat.mod_eq_of_lt (by omega)

end Sys2Proof.Machine
end

