-- ==== Sys2Proof/Laws/Channels.lean ====
section
/-! SUPPORT. What a draw does to its channel (spec/00_scope.md R12, R13). -/

namespace Sys2Proof.Machine

/-- A draw below `n`: one listed answer is gone if there was one, one request is recorded, and the value is in range; if an answer
was listed it is the value. -/
theorem RandomChannel.draw_spec {n : Nat} {c c' : RandomChannel} {v : Nat} (hn : 1 ≤ n) (h : c.draw n = some (v, c')) :
    v < n ∧ c'.requests = c.requests ++ [n] ∧ c'.answers = c.answers.drop 1 ∧ (∀ a ∈ c.answers.head?, a.toNat = v) := by
  unfold RandomChannel.draw at h
  split at h
  · next ha =>
    simp only [Option.some.injEq, Prod.mk.injEq] at h
    obtain ⟨rfl, rfl⟩ := h
    exact ⟨Nat.mod_lt _ hn, rfl, by simp [ha], by simp [ha]⟩
  · next a rest ha =>
    split at h
    · next hlt =>
      simp only [Option.some.injEq, Prod.mk.injEq] at h
      obtain ⟨rfl, rfl⟩ := h
      exact ⟨hlt, rfl, by simp [ha], by simp [ha]⟩
    · cases h

/-- A draw has no meaning exactly when the next listed answer is out of range (U4). -/
theorem RandomChannel.draw_eq_none (n : Nat) (c : RandomChannel) :
    c.draw n = none ↔ ∃ a rest, c.answers = a :: rest ∧ n ≤ a.toNat := by
  unfold RandomChannel.draw
  split <;> simp_all

@[simp] theorem PaletteChannel.draw_requests (c : PaletteChannel) : c.draw.2.requests = c.requests + 1 := by
  unfold PaletteChannel.draw; split <;> rfl

@[simp] theorem PaletteChannel.draw_answers (c : PaletteChannel) : c.draw.2.answers = c.answers.drop 1 := by
  unfold PaletteChannel.draw; split <;> simp_all

@[simp] theorem resolve_catalog (cat : Catalog) (id : PaletteId) (p : PaletteChannel) :
    resolve cat (.catalog id) p = (cat.palette id, cat.palette id, p) := rfl

@[simp] theorem resolve_randomPair (cat : Catalog) (p : PaletteChannel) :
    resolve cat .randomPair p = (p.draw.1, p.draw.2.draw.1, p.draw.2.draw.2) := rfl

end Sys2Proof.Machine
end

