-- ==== Sys2Proof/Laws/Decode.lean ====
section
/-! SUPPORT. Fields of words put together, and the opcode map both ways (spec/30_encoding.md R80, R81). -/

namespace Sys2Proof

@[simp] theorem opField_append (op : Byte) (arg : BitVec 32) : opField (op ++ arg) = op := by
  apply BitVec.eq_of_getLsbD_eq
  intro j hj
  simp only [opField, BitVec.getLsbD_extractLsb', hj, decide_true, Bool.true_and]
  rw [BitVec.getLsbD_append]
  simp [show ¬ 32 + j < 32 by omega]

@[simp] theorem argField_append (op : Byte) (arg : BitVec 32) : argField (op ++ arg) = arg := by
  apply BitVec.eq_of_getLsbD_eq
  intro j hj
  simp only [argField, BitVec.getLsbD_extractLsb', hj, decide_true, Bool.true_and]
  rw [BitVec.getLsbD_append]
  simp [hj]

/-- A word is its two fields. -/
theorem word_eq_fields (w : CommandWord) : opField w ++ argField w = w := by
  apply BitVec.eq_of_getLsbD_eq
  intro j hj
  rw [BitVec.getLsbD_append]
  by_cases h : j < 32
  · simp [h, argField]
  · simp [h, opField, show j - 32 < 8 by omega, show 32 + (j - 32) = j by omega]

@[simp] theorem Opcode.ofByte_toByte (o : Opcode) : Opcode.ofByte o.toByte = some o := by cases o <;> rfl

theorem Opcode.toByte_of_ofByte {b : Byte} {o : Opcode} (h : Opcode.ofByte b = some o) : b = o.toByte := by
  revert b o; decide

/-- R84: no opcode has a byte of 8 or more. -/
theorem Opcode.ofByte_eq_none (b : Byte) : Opcode.ofByte b = none ↔ 8 ≤ b.toNat := by
  revert b; decide

@[simp] theorem opField_encode (i : Instr) : opField (encode i) = i.opcode.toByte := opField_append _ _

@[simp] theorem argField_encode (i : Instr) : argField (encode i) = i.arg := argField_append _ _

/-- What decoding does, in terms of the opcode and the argument (R87). -/
theorem decode_cases (w : CommandWord) :
    (Opcode.ofByte (opField w) = none ∧ decode w = .error .reservedOpcode) ∨
    (∃ o : Opcode, opField w = o.toByte ∧ o.format.zerosHold (argField w) = false ∧ decode w = .error .mustBeZero) ∨
    (∃ o : Opcode, opField w = o.toByte ∧ o.format.zerosHold (argField w) = true ∧ decode w = .ok (o.assemble (argField w))) := by
  unfold decode
  cases h : Opcode.ofByte (opField w) with
  | none => exact .inl ⟨rfl, rfl⟩
  | some o =>
    have ho := Opcode.toByte_of_ofByte h
    cases hz : o.format.zerosHold (argField w)
    · exact .inr (.inl ⟨o, ho, hz, by simp [hz]⟩)
    · exact .inr (.inr ⟨o, ho, hz, by simp [hz]⟩)

end Sys2Proof
end

