-- ==== Sys2Proof/Laws/State.lean ====
section
/-! SUPPORT. What each named update of the state leaves in each field: one lemma per field per update, so that a proof never unfolds
a record update. -/

namespace Sys2Proof.Machine

/-! A whole frame (R62). -/

@[simp] theorem writeFrame_params (pixel : Nat → Rgb) (s : State) : (writeFrame pixel s).params = s.params := rfl
@[simp] theorem writeFrame_mode (pixel : Nat → Rgb) (s : State) : (writeFrame pixel s).mode = s.mode := rfl
@[simp] theorem writeFrame_blend (pixel : Nat → Rgb) (s : State) : (writeFrame pixel s).blend = s.blend := rfl
@[simp] theorem writeFrame_period (pixel : Nat → Rgb) (s : State) : (writeFrame pixel s).period = s.period := rfl
@[simp] theorem writeFrame_offset (pixel : Nat → Rgb) (s : State) : (writeFrame pixel s).offset = s.offset := rfl
@[simp] theorem writeFrame_on (pixel : Nat → Rgb) (s : State) : (writeFrame pixel s).on = s.on := rfl
@[simp] theorem writeFrame_bright (pixel : Nat → Rgb) (s : State) : (writeFrame pixel s).bright = s.bright := rfl
@[simp] theorem writeFrame_curPal (pixel : Nat → Rgb) (s : State) : (writeFrame pixel s).curPal = s.curPal := rfl
@[simp] theorem writeFrame_tgtPal (pixel : Nat → Rgb) (s : State) : (writeFrame pixel s).tgtPal = s.tgtPal := rfl
@[simp] theorem writeFrame_heat (pixel : Nat → Rgb) (s : State) : (writeFrame pixel s).heat = s.heat := rfl
@[simp] theorem writeFrame_secCnt (pixel : Nat → Rgb) (s : State) : (writeFrame pixel s).secCnt = s.secCnt := rfl
@[simp] theorem writeFrame_maskGate (pixel : Nat → Rgb) (s : State) : (writeFrame pixel s).maskGate = s.maskGate := rfl
@[simp] theorem writeFrame_tgtGate (pixel : Nat → Rgb) (s : State) : (writeFrame pixel s).tgtGate = s.tgtGate := rfl
@[simp] theorem writeFrame_result (pixel : Nat → Rgb) (s : State) : (writeFrame pixel s).result = s.result := rfl
@[simp] theorem writeFrame_errCmd (pixel : Nat → Rgb) (s : State) : (writeFrame pixel s).errCmd = s.errCmd := rfl
@[simp] theorem writeFrame_errMode (pixel : Nat → Rgb) (s : State) : (writeFrame pixel s).errMode = s.errMode := rfl
@[simp] theorem writeFrame_inputs (pixel : Nat → Rgb) (s : State) : (writeFrame pixel s).inputs = s.inputs := rfl
@[simp] theorem writeFrame_rnd (pixel : Nat → Rgb) (s : State) : (writeFrame pixel s).rnd = s.rnd := rfl
@[simp] theorem writeFrame_pal (pixel : Nat → Rgb) (s : State) : (writeFrame pixel s).pal = s.pal := rfl
@[simp] theorem writeFrame_logOut (pixel : Nat → Rgb) (s : State) : (writeFrame pixel s).logOut = s.logOut := rfl
@[simp] theorem writeFrame_sinkOut (pixel : Nat → Rgb) (s : State) : (writeFrame pixel s).sinkOut = s.sinkOut := rfl
@[simp] theorem writeFrame_cfg (pixel : Nat → Rgb) (s : State) : (writeFrame pixel s).cfg = s.cfg := rfl
@[simp] theorem writeFrame_modeCfg (pixel : Nat → Rgb) (s : State) : (writeFrame pixel s).modeCfg = s.modeCfg := rfl
@[simp] theorem writeFrame_fb (pixel : Nat → Rgb) (s : State) :
    (writeFrame pixel s).fb = (List.range s.cfg.numLeds).map pixel := rfl

/-! One entry (R62). -/

@[simp] theorem memWrite_params (i : Nat) (v : Rgb) (s : State) : (memWrite i v s).params = s.params := rfl
@[simp] theorem memWrite_mode (i : Nat) (v : Rgb) (s : State) : (memWrite i v s).mode = s.mode := rfl
@[simp] theorem memWrite_blend (i : Nat) (v : Rgb) (s : State) : (memWrite i v s).blend = s.blend := rfl
@[simp] theorem memWrite_period (i : Nat) (v : Rgb) (s : State) : (memWrite i v s).period = s.period := rfl
@[simp] theorem memWrite_offset (i : Nat) (v : Rgb) (s : State) : (memWrite i v s).offset = s.offset := rfl
@[simp] theorem memWrite_on (i : Nat) (v : Rgb) (s : State) : (memWrite i v s).on = s.on := rfl
@[simp] theorem memWrite_bright (i : Nat) (v : Rgb) (s : State) : (memWrite i v s).bright = s.bright := rfl
@[simp] theorem memWrite_curPal (i : Nat) (v : Rgb) (s : State) : (memWrite i v s).curPal = s.curPal := rfl
@[simp] theorem memWrite_tgtPal (i : Nat) (v : Rgb) (s : State) : (memWrite i v s).tgtPal = s.tgtPal := rfl
@[simp] theorem memWrite_heat (i : Nat) (v : Rgb) (s : State) : (memWrite i v s).heat = s.heat := rfl
@[simp] theorem memWrite_secCnt (i : Nat) (v : Rgb) (s : State) : (memWrite i v s).secCnt = s.secCnt := rfl
@[simp] theorem memWrite_maskGate (i : Nat) (v : Rgb) (s : State) : (memWrite i v s).maskGate = s.maskGate := rfl
@[simp] theorem memWrite_tgtGate (i : Nat) (v : Rgb) (s : State) : (memWrite i v s).tgtGate = s.tgtGate := rfl
@[simp] theorem memWrite_result (i : Nat) (v : Rgb) (s : State) : (memWrite i v s).result = s.result := rfl
@[simp] theorem memWrite_errCmd (i : Nat) (v : Rgb) (s : State) : (memWrite i v s).errCmd = s.errCmd := rfl
@[simp] theorem memWrite_errMode (i : Nat) (v : Rgb) (s : State) : (memWrite i v s).errMode = s.errMode := rfl
@[simp] theorem memWrite_inputs (i : Nat) (v : Rgb) (s : State) : (memWrite i v s).inputs = s.inputs := rfl
@[simp] theorem memWrite_rnd (i : Nat) (v : Rgb) (s : State) : (memWrite i v s).rnd = s.rnd := rfl
@[simp] theorem memWrite_pal (i : Nat) (v : Rgb) (s : State) : (memWrite i v s).pal = s.pal := rfl
@[simp] theorem memWrite_logOut (i : Nat) (v : Rgb) (s : State) : (memWrite i v s).logOut = s.logOut := rfl
@[simp] theorem memWrite_sinkOut (i : Nat) (v : Rgb) (s : State) : (memWrite i v s).sinkOut = s.sinkOut := rfl
@[simp] theorem memWrite_cfg (i : Nat) (v : Rgb) (s : State) : (memWrite i v s).cfg = s.cfg := rfl
@[simp] theorem memWrite_modeCfg (i : Nat) (v : Rgb) (s : State) : (memWrite i v s).modeCfg = s.modeCfg := rfl
@[simp] theorem memWrite_fb (i : Nat) (v : Rgb) (s : State) : (memWrite i v s).fb = s.fb.set i v := rfl

/-! The log event (R203). -/

@[simp] theorem emitLog_params (code : Byte) (s : State) : (emitLog code s).params = s.params := rfl
@[simp] theorem emitLog_mode (code : Byte) (s : State) : (emitLog code s).mode = s.mode := rfl
@[simp] theorem emitLog_blend (code : Byte) (s : State) : (emitLog code s).blend = s.blend := rfl
@[simp] theorem emitLog_period (code : Byte) (s : State) : (emitLog code s).period = s.period := rfl
@[simp] theorem emitLog_offset (code : Byte) (s : State) : (emitLog code s).offset = s.offset := rfl
@[simp] theorem emitLog_on (code : Byte) (s : State) : (emitLog code s).on = s.on := rfl
@[simp] theorem emitLog_bright (code : Byte) (s : State) : (emitLog code s).bright = s.bright := rfl
@[simp] theorem emitLog_curPal (code : Byte) (s : State) : (emitLog code s).curPal = s.curPal := rfl
@[simp] theorem emitLog_tgtPal (code : Byte) (s : State) : (emitLog code s).tgtPal = s.tgtPal := rfl
@[simp] theorem emitLog_heat (code : Byte) (s : State) : (emitLog code s).heat = s.heat := rfl
@[simp] theorem emitLog_secCnt (code : Byte) (s : State) : (emitLog code s).secCnt = s.secCnt := rfl
@[simp] theorem emitLog_maskGate (code : Byte) (s : State) : (emitLog code s).maskGate = s.maskGate := rfl
@[simp] theorem emitLog_tgtGate (code : Byte) (s : State) : (emitLog code s).tgtGate = s.tgtGate := rfl
@[simp] theorem emitLog_result (code : Byte) (s : State) : (emitLog code s).result = s.result := rfl
@[simp] theorem emitLog_errCmd (code : Byte) (s : State) : (emitLog code s).errCmd = s.errCmd := rfl
@[simp] theorem emitLog_errMode (code : Byte) (s : State) : (emitLog code s).errMode = s.errMode := rfl
@[simp] theorem emitLog_fb (code : Byte) (s : State) : (emitLog code s).fb = s.fb := rfl
@[simp] theorem emitLog_inputs (code : Byte) (s : State) : (emitLog code s).inputs = s.inputs := rfl
@[simp] theorem emitLog_rnd (code : Byte) (s : State) : (emitLog code s).rnd = s.rnd := rfl
@[simp] theorem emitLog_pal (code : Byte) (s : State) : (emitLog code s).pal = s.pal := rfl
@[simp] theorem emitLog_sinkOut (code : Byte) (s : State) : (emitLog code s).sinkOut = s.sinkOut := rfl
@[simp] theorem emitLog_cfg (code : Byte) (s : State) : (emitLog code s).cfg = s.cfg := rfl
@[simp] theorem emitLog_modeCfg (code : Byte) (s : State) : (emitLog code s).modeCfg = s.modeCfg := rfl
@[simp] theorem emitLog_logOut (code : Byte) (s : State) : (emitLog code s).logOut = s.logOut ++ [code] := rfl

/-! The scroll offset (R143). -/

@[simp] theorem advanceOffset_params (delta : Byte) (s : State) : (advanceOffset delta s).params = s.params := rfl
@[simp] theorem advanceOffset_mode (delta : Byte) (s : State) : (advanceOffset delta s).mode = s.mode := rfl
@[simp] theorem advanceOffset_blend (delta : Byte) (s : State) : (advanceOffset delta s).blend = s.blend := rfl
@[simp] theorem advanceOffset_period (delta : Byte) (s : State) : (advanceOffset delta s).period = s.period := rfl
@[simp] theorem advanceOffset_on (delta : Byte) (s : State) : (advanceOffset delta s).on = s.on := rfl
@[simp] theorem advanceOffset_bright (delta : Byte) (s : State) : (advanceOffset delta s).bright = s.bright := rfl
@[simp] theorem advanceOffset_curPal (delta : Byte) (s : State) : (advanceOffset delta s).curPal = s.curPal := rfl
@[simp] theorem advanceOffset_tgtPal (delta : Byte) (s : State) : (advanceOffset delta s).tgtPal = s.tgtPal := rfl
@[simp] theorem advanceOffset_heat (delta : Byte) (s : State) : (advanceOffset delta s).heat = s.heat := rfl
@[simp] theorem advanceOffset_secCnt (delta : Byte) (s : State) : (advanceOffset delta s).secCnt = s.secCnt := rfl
@[simp] theorem advanceOffset_maskGate (delta : Byte) (s : State) : (advanceOffset delta s).maskGate = s.maskGate := rfl
@[simp] theorem advanceOffset_tgtGate (delta : Byte) (s : State) : (advanceOffset delta s).tgtGate = s.tgtGate := rfl
@[simp] theorem advanceOffset_result (delta : Byte) (s : State) : (advanceOffset delta s).result = s.result := rfl
@[simp] theorem advanceOffset_errCmd (delta : Byte) (s : State) : (advanceOffset delta s).errCmd = s.errCmd := rfl
@[simp] theorem advanceOffset_errMode (delta : Byte) (s : State) : (advanceOffset delta s).errMode = s.errMode := rfl
@[simp] theorem advanceOffset_fb (delta : Byte) (s : State) : (advanceOffset delta s).fb = s.fb := rfl
@[simp] theorem advanceOffset_inputs (delta : Byte) (s : State) : (advanceOffset delta s).inputs = s.inputs := rfl
@[simp] theorem advanceOffset_rnd (delta : Byte) (s : State) : (advanceOffset delta s).rnd = s.rnd := rfl
@[simp] theorem advanceOffset_pal (delta : Byte) (s : State) : (advanceOffset delta s).pal = s.pal := rfl
@[simp] theorem advanceOffset_logOut (delta : Byte) (s : State) : (advanceOffset delta s).logOut = s.logOut := rfl
@[simp] theorem advanceOffset_sinkOut (delta : Byte) (s : State) : (advanceOffset delta s).sinkOut = s.sinkOut := rfl
@[simp] theorem advanceOffset_cfg (delta : Byte) (s : State) : (advanceOffset delta s).cfg = s.cfg := rfl
@[simp] theorem advanceOffset_modeCfg (delta : Byte) (s : State) : (advanceOffset delta s).modeCfg = s.modeCfg := rfl
@[simp] theorem advanceOffset_offset (delta : Byte) (s : State) :
    (advanceOffset delta s).offset = BitVec.ofInt 8 ((s.offset.toNat + delta.toInt) % 256) := rfl

/-! The mask counter and its gate (R143). -/

@[simp] theorem stepMask_params (now : BitVec 32) (s : State) : (stepMask now s).params = s.params := rfl
@[simp] theorem stepMask_mode (now : BitVec 32) (s : State) : (stepMask now s).mode = s.mode := rfl
@[simp] theorem stepMask_blend (now : BitVec 32) (s : State) : (stepMask now s).blend = s.blend := rfl
@[simp] theorem stepMask_period (now : BitVec 32) (s : State) : (stepMask now s).period = s.period := rfl
@[simp] theorem stepMask_offset (now : BitVec 32) (s : State) : (stepMask now s).offset = s.offset := rfl
@[simp] theorem stepMask_on (now : BitVec 32) (s : State) : (stepMask now s).on = s.on := rfl
@[simp] theorem stepMask_bright (now : BitVec 32) (s : State) : (stepMask now s).bright = s.bright := rfl
@[simp] theorem stepMask_curPal (now : BitVec 32) (s : State) : (stepMask now s).curPal = s.curPal := rfl
@[simp] theorem stepMask_tgtPal (now : BitVec 32) (s : State) : (stepMask now s).tgtPal = s.tgtPal := rfl
@[simp] theorem stepMask_heat (now : BitVec 32) (s : State) : (stepMask now s).heat = s.heat := rfl
@[simp] theorem stepMask_tgtGate (now : BitVec 32) (s : State) : (stepMask now s).tgtGate = s.tgtGate := rfl
@[simp] theorem stepMask_result (now : BitVec 32) (s : State) : (stepMask now s).result = s.result := rfl
@[simp] theorem stepMask_errCmd (now : BitVec 32) (s : State) : (stepMask now s).errCmd = s.errCmd := rfl
@[simp] theorem stepMask_errMode (now : BitVec 32) (s : State) : (stepMask now s).errMode = s.errMode := rfl
@[simp] theorem stepMask_fb (now : BitVec 32) (s : State) : (stepMask now s).fb = s.fb := rfl
@[simp] theorem stepMask_inputs (now : BitVec 32) (s : State) : (stepMask now s).inputs = s.inputs := rfl
@[simp] theorem stepMask_rnd (now : BitVec 32) (s : State) : (stepMask now s).rnd = s.rnd := rfl
@[simp] theorem stepMask_pal (now : BitVec 32) (s : State) : (stepMask now s).pal = s.pal := rfl
@[simp] theorem stepMask_logOut (now : BitVec 32) (s : State) : (stepMask now s).logOut = s.logOut := rfl
@[simp] theorem stepMask_sinkOut (now : BitVec 32) (s : State) : (stepMask now s).sinkOut = s.sinkOut := rfl
@[simp] theorem stepMask_cfg (now : BitVec 32) (s : State) : (stepMask now s).cfg = s.cfg := rfl
@[simp] theorem stepMask_modeCfg (now : BitVec 32) (s : State) : (stepMask now s).modeCfg = s.modeCfg := rfl
@[simp] theorem stepMask_maskGate (now : BitVec 32) (s : State) :
    (stepMask now s).maskGate = (gate s.maskGate now s.cfg.maskPeriodMs).2 := rfl
@[simp] theorem stepMask_secCnt (now : BitVec 32) (s : State) :
    (stepMask now s).secCnt = if (gate s.maskGate now s.cfg.maskPeriodMs).1 then BitVec.ofNat 4 ((s.secCnt.toNat + 1) % 11)
      else s.secCnt := rfl

/-! A word presented (R41). -/

@[simp] theorem presentWord_params (w : CommandWord) (s : State) : (presentWord w s).params = s.params := rfl
@[simp] theorem presentWord_mode (w : CommandWord) (s : State) : (presentWord w s).mode = s.mode := rfl
@[simp] theorem presentWord_blend (w : CommandWord) (s : State) : (presentWord w s).blend = s.blend := rfl
@[simp] theorem presentWord_period (w : CommandWord) (s : State) : (presentWord w s).period = s.period := rfl
@[simp] theorem presentWord_offset (w : CommandWord) (s : State) : (presentWord w s).offset = s.offset := rfl
@[simp] theorem presentWord_on (w : CommandWord) (s : State) : (presentWord w s).on = s.on := rfl
@[simp] theorem presentWord_bright (w : CommandWord) (s : State) : (presentWord w s).bright = s.bright := rfl
@[simp] theorem presentWord_curPal (w : CommandWord) (s : State) : (presentWord w s).curPal = s.curPal := rfl
@[simp] theorem presentWord_tgtPal (w : CommandWord) (s : State) : (presentWord w s).tgtPal = s.tgtPal := rfl
@[simp] theorem presentWord_heat (w : CommandWord) (s : State) : (presentWord w s).heat = s.heat := rfl
@[simp] theorem presentWord_secCnt (w : CommandWord) (s : State) : (presentWord w s).secCnt = s.secCnt := rfl
@[simp] theorem presentWord_maskGate (w : CommandWord) (s : State) : (presentWord w s).maskGate = s.maskGate := rfl
@[simp] theorem presentWord_tgtGate (w : CommandWord) (s : State) : (presentWord w s).tgtGate = s.tgtGate := rfl
@[simp] theorem presentWord_result (w : CommandWord) (s : State) : (presentWord w s).result = s.result := rfl
@[simp] theorem presentWord_errCmd (w : CommandWord) (s : State) : (presentWord w s).errCmd = s.errCmd := rfl
@[simp] theorem presentWord_errMode (w : CommandWord) (s : State) : (presentWord w s).errMode = s.errMode := rfl
@[simp] theorem presentWord_fb (w : CommandWord) (s : State) : (presentWord w s).fb = s.fb := rfl
@[simp] theorem presentWord_rnd (w : CommandWord) (s : State) : (presentWord w s).rnd = s.rnd := rfl
@[simp] theorem presentWord_pal (w : CommandWord) (s : State) : (presentWord w s).pal = s.pal := rfl
@[simp] theorem presentWord_logOut (w : CommandWord) (s : State) : (presentWord w s).logOut = s.logOut := rfl
@[simp] theorem presentWord_sinkOut (w : CommandWord) (s : State) : (presentWord w s).sinkOut = s.sinkOut := rfl
@[simp] theorem presentWord_cfg (w : CommandWord) (s : State) : (presentWord w s).cfg = s.cfg := rfl
@[simp] theorem presentWord_modeCfg (w : CommandWord) (s : State) : (presentWord w s).modeCfg = s.modeCfg := rfl
@[simp] theorem presentWord_inputs (w : CommandWord) (s : State) :
    (presentWord w s).inputs = .command w :: s.inputs := rfl

/-! A read of the sink (R44). -/

@[simp] theorem sinkRead_params (addr : BitVec 16) (s : State) : (sinkRead addr s).params = s.params := rfl
@[simp] theorem sinkRead_mode (addr : BitVec 16) (s : State) : (sinkRead addr s).mode = s.mode := rfl
@[simp] theorem sinkRead_blend (addr : BitVec 16) (s : State) : (sinkRead addr s).blend = s.blend := rfl
@[simp] theorem sinkRead_period (addr : BitVec 16) (s : State) : (sinkRead addr s).period = s.period := rfl
@[simp] theorem sinkRead_offset (addr : BitVec 16) (s : State) : (sinkRead addr s).offset = s.offset := rfl
@[simp] theorem sinkRead_on (addr : BitVec 16) (s : State) : (sinkRead addr s).on = s.on := rfl
@[simp] theorem sinkRead_bright (addr : BitVec 16) (s : State) : (sinkRead addr s).bright = s.bright := rfl
@[simp] theorem sinkRead_curPal (addr : BitVec 16) (s : State) : (sinkRead addr s).curPal = s.curPal := rfl
@[simp] theorem sinkRead_tgtPal (addr : BitVec 16) (s : State) : (sinkRead addr s).tgtPal = s.tgtPal := rfl
@[simp] theorem sinkRead_heat (addr : BitVec 16) (s : State) : (sinkRead addr s).heat = s.heat := rfl
@[simp] theorem sinkRead_secCnt (addr : BitVec 16) (s : State) : (sinkRead addr s).secCnt = s.secCnt := rfl
@[simp] theorem sinkRead_maskGate (addr : BitVec 16) (s : State) : (sinkRead addr s).maskGate = s.maskGate := rfl
@[simp] theorem sinkRead_tgtGate (addr : BitVec 16) (s : State) : (sinkRead addr s).tgtGate = s.tgtGate := rfl
@[simp] theorem sinkRead_result (addr : BitVec 16) (s : State) : (sinkRead addr s).result = s.result := rfl
@[simp] theorem sinkRead_errCmd (addr : BitVec 16) (s : State) : (sinkRead addr s).errCmd = s.errCmd := rfl
@[simp] theorem sinkRead_errMode (addr : BitVec 16) (s : State) : (sinkRead addr s).errMode = s.errMode := rfl
@[simp] theorem sinkRead_fb (addr : BitVec 16) (s : State) : (sinkRead addr s).fb = s.fb := rfl
@[simp] theorem sinkRead_inputs (addr : BitVec 16) (s : State) : (sinkRead addr s).inputs = s.inputs := rfl
@[simp] theorem sinkRead_rnd (addr : BitVec 16) (s : State) : (sinkRead addr s).rnd = s.rnd := rfl
@[simp] theorem sinkRead_pal (addr : BitVec 16) (s : State) : (sinkRead addr s).pal = s.pal := rfl
@[simp] theorem sinkRead_logOut (addr : BitVec 16) (s : State) : (sinkRead addr s).logOut = s.logOut := rfl
@[simp] theorem sinkRead_cfg (addr : BitVec 16) (s : State) : (sinkRead addr s).cfg = s.cfg := rfl
@[simp] theorem sinkRead_modeCfg (addr : BitVec 16) (s : State) : (sinkRead addr s).modeCfg = s.modeCfg := rfl
@[simp] theorem sinkRead_sinkOut (addr : BitVec 16) (s : State) :
    (sinkRead addr s).sinkOut = s.sinkOut ++ [frameData s addr] := rfl

/-! An error (R191). -/

@[simp] theorem raiseError_params (e : CommandError) (s : State) : (raiseError e s).params = s.params := by cases e <;> rfl
@[simp] theorem raiseError_mode (e : CommandError) (s : State) : (raiseError e s).mode = s.mode := by cases e <;> rfl
@[simp] theorem raiseError_blend (e : CommandError) (s : State) : (raiseError e s).blend = s.blend := by cases e <;> rfl
@[simp] theorem raiseError_period (e : CommandError) (s : State) : (raiseError e s).period = s.period := by cases e <;> rfl
@[simp] theorem raiseError_offset (e : CommandError) (s : State) : (raiseError e s).offset = s.offset := by cases e <;> rfl
@[simp] theorem raiseError_on (e : CommandError) (s : State) : (raiseError e s).on = s.on := by cases e <;> rfl
@[simp] theorem raiseError_bright (e : CommandError) (s : State) : (raiseError e s).bright = s.bright := by cases e <;> rfl
@[simp] theorem raiseError_curPal (e : CommandError) (s : State) : (raiseError e s).curPal = s.curPal := by cases e <;> rfl
@[simp] theorem raiseError_tgtPal (e : CommandError) (s : State) : (raiseError e s).tgtPal = s.tgtPal := by cases e <;> rfl
@[simp] theorem raiseError_heat (e : CommandError) (s : State) : (raiseError e s).heat = s.heat := by cases e <;> rfl
@[simp] theorem raiseError_secCnt (e : CommandError) (s : State) : (raiseError e s).secCnt = s.secCnt := by cases e <;> rfl
@[simp] theorem raiseError_maskGate (e : CommandError) (s : State) : (raiseError e s).maskGate = s.maskGate := by cases e <;> rfl
@[simp] theorem raiseError_tgtGate (e : CommandError) (s : State) : (raiseError e s).tgtGate = s.tgtGate := by cases e <;> rfl
@[simp] theorem raiseError_result (e : CommandError) (s : State) : (raiseError e s).result = s.result := by cases e <;> rfl
@[simp] theorem raiseError_fb (e : CommandError) (s : State) : (raiseError e s).fb = s.fb := by cases e <;> rfl
@[simp] theorem raiseError_inputs (e : CommandError) (s : State) : (raiseError e s).inputs = s.inputs := by cases e <;> rfl
@[simp] theorem raiseError_rnd (e : CommandError) (s : State) : (raiseError e s).rnd = s.rnd := by cases e <;> rfl
@[simp] theorem raiseError_pal (e : CommandError) (s : State) : (raiseError e s).pal = s.pal := by cases e <;> rfl
@[simp] theorem raiseError_logOut (e : CommandError) (s : State) : (raiseError e s).logOut = s.logOut := by cases e <;> rfl
@[simp] theorem raiseError_sinkOut (e : CommandError) (s : State) : (raiseError e s).sinkOut = s.sinkOut := by cases e <;> rfl
@[simp] theorem raiseError_cfg (e : CommandError) (s : State) : (raiseError e s).cfg = s.cfg := by cases e <;> rfl
@[simp] theorem raiseError_modeCfg (e : CommandError) (s : State) : (raiseError e s).modeCfg = s.modeCfg := by cases e <;> rfl
@[simp] theorem raiseError_badCommand (s : State) : raiseError .badCommand s = { s with errCmd := true } := rfl
@[simp] theorem raiseError_invalidMode (s : State) : raiseError .invalidMode s = { s with errMode := true } := rfl

/-! The new-target gate (R160). -/

@[simp] theorem refreshTarget_params (now : BitVec 32) (s : State) : (refreshTarget now s).params = s.params := rfl
@[simp] theorem refreshTarget_mode (now : BitVec 32) (s : State) : (refreshTarget now s).mode = s.mode := rfl
@[simp] theorem refreshTarget_blend (now : BitVec 32) (s : State) : (refreshTarget now s).blend = s.blend := rfl
@[simp] theorem refreshTarget_period (now : BitVec 32) (s : State) : (refreshTarget now s).period = s.period := rfl
@[simp] theorem refreshTarget_offset (now : BitVec 32) (s : State) : (refreshTarget now s).offset = s.offset := rfl
@[simp] theorem refreshTarget_on (now : BitVec 32) (s : State) : (refreshTarget now s).on = s.on := rfl
@[simp] theorem refreshTarget_bright (now : BitVec 32) (s : State) : (refreshTarget now s).bright = s.bright := rfl
@[simp] theorem refreshTarget_curPal (now : BitVec 32) (s : State) : (refreshTarget now s).curPal = s.curPal := rfl
@[simp] theorem refreshTarget_heat (now : BitVec 32) (s : State) : (refreshTarget now s).heat = s.heat := rfl
@[simp] theorem refreshTarget_secCnt (now : BitVec 32) (s : State) : (refreshTarget now s).secCnt = s.secCnt := rfl
@[simp] theorem refreshTarget_maskGate (now : BitVec 32) (s : State) : (refreshTarget now s).maskGate = s.maskGate := rfl
@[simp] theorem refreshTarget_result (now : BitVec 32) (s : State) : (refreshTarget now s).result = s.result := rfl
@[simp] theorem refreshTarget_errCmd (now : BitVec 32) (s : State) : (refreshTarget now s).errCmd = s.errCmd := rfl
@[simp] theorem refreshTarget_errMode (now : BitVec 32) (s : State) : (refreshTarget now s).errMode = s.errMode := rfl
@[simp] theorem refreshTarget_fb (now : BitVec 32) (s : State) : (refreshTarget now s).fb = s.fb := rfl
@[simp] theorem refreshTarget_inputs (now : BitVec 32) (s : State) : (refreshTarget now s).inputs = s.inputs := rfl
@[simp] theorem refreshTarget_rnd (now : BitVec 32) (s : State) : (refreshTarget now s).rnd = s.rnd := rfl
@[simp] theorem refreshTarget_logOut (now : BitVec 32) (s : State) : (refreshTarget now s).logOut = s.logOut := rfl
@[simp] theorem refreshTarget_sinkOut (now : BitVec 32) (s : State) : (refreshTarget now s).sinkOut = s.sinkOut := rfl
@[simp] theorem refreshTarget_cfg (now : BitVec 32) (s : State) : (refreshTarget now s).cfg = s.cfg := rfl
@[simp] theorem refreshTarget_modeCfg (now : BitVec 32) (s : State) : (refreshTarget now s).modeCfg = s.modeCfg := rfl
@[simp] theorem refreshTarget_tgtGate (now : BitVec 32) (s : State) :
    (refreshTarget now s).tgtGate = (gate s.tgtGate now s.cfg.targetPeriodMs).2 := rfl
@[simp] theorem refreshTarget_tgtPal (now : BitVec 32) (s : State) :
    (refreshTarget now s).tgtPal = if (gate s.tgtGate now s.cfg.targetPeriodMs).1 then s.pal.draw.1 else s.tgtPal := rfl
@[simp] theorem refreshTarget_pal (now : BitVec 32) (s : State) :
    (refreshTarget now s).pal = if (gate s.tgtGate now s.cfg.targetPeriodMs).1 then s.pal.draw.2 else s.pal := rfl

end Sys2Proof.Machine
end

