-- ==== Sys2Proof/Laws/Exec.lean ====
section
/-! SUPPORT. What a step and a RUN can do, said once. -/

namespace Sys2Proof.Machine

theorem step_nil {s : State} (h : s.inputs = []) : step s = .next s := by simp [step, takeInput, h]

theorem step_cons {s : State} {i : Input} {rest : List Input} (h : s.inputs = i :: rest) :
    step s = runInput i { s with inputs := rest } := by simp [step, takeInput, h]

theorem runWord_ok {w : CommandWord} {i : Instr} (h : decode w = .ok i) (s : State) : runWord w s = exec i s := by
  simp [runWord, h]

theorem runWord_error {w : CommandWord} {e : Reject} (h : decode w = .error e) (s : State) :
    runWord w s = .next { s with errCmd := true } := by simp [runWord, h, rejectWord]

/-- What a step that goes on did. -/
theorem step_cases {s t : State} (h : step s = .next t) :
    (s.inputs = [] ∧ t = s) ∨
    (∃ w rest i, s.inputs = .command w :: rest ∧ decode w = .ok i ∧ exec i { s with inputs := rest } = .next t) ∨
    (∃ w rest, s.inputs = .command w :: rest ∧ (∃ e, decode w = .error e) ∧ t = { s with inputs := rest, errCmd := true }) ∨
    (∃ rest, s.inputs = .reset :: rest ∧ t = applyReset { s with inputs := rest }) ∨
    (∃ addr rest, s.inputs = .sinkRead addr :: rest ∧ t = sinkRead addr { s with inputs := rest }) := by
  cases hi : s.inputs with
  | nil =>
    rw [step_nil hi] at h
    exact .inl ⟨rfl, (Host.Outcome.next.inj h).symm⟩
  | cons i rest =>
    rw [step_cons hi] at h
    cases i with
    | command w =>
      cases hd : decode w with
      | ok i => exact .inr (.inl ⟨w, rest, i, rfl, hd, by rwa [runInput, runWord_ok hd] at h⟩)
      | error e =>
        rw [runInput, runWord_error hd] at h
        exact .inr (.inr (.inl ⟨w, rest, rfl, ⟨e, hd⟩, (Host.Outcome.next.inj h).symm⟩))
    | reset => exact .inr (.inr (.inr (.inl ⟨rest, rfl, (Host.Outcome.next.inj h).symm⟩)))
    | sinkRead addr => exact .inr (.inr (.inr (.inr ⟨addr, rest, rfl, (Host.Outcome.next.inj h).symm⟩)))

/-- The mode an admitted code names has that code; no other code names a mode. -/
theorem Mode.ofCode_code (m : Mode) : Mode.ofCode m.code = some m := by cases m <;> rfl

theorem Mode.code_of_ofCode {c : Byte} {m : Mode} (h : Mode.ofCode c = some m) : m.code = c := by
  revert c m; intro c; revert c; decide +revert

theorem Mode.ofCode_eq_none (c : Byte) : Mode.ofCode c = none ↔ 8 < c.toNat := by
  revert c; decide

/-- What SETMODE can do (R125). -/
theorem execSetmode_cases (mode : Byte) (s : State) :
    (∃ m, Mode.ofCode mode = some m ∧ execSetmode mode s = .next (enterMode m s)) ∨
    (Mode.ofCode mode = none ∧ execSetmode mode s = .next { s with errMode := true }) := by
  unfold execSetmode modeOperand
  cases h : Mode.ofCode mode with
  | none => exact .inr ⟨rfl, by simp⟩
  | some m => exact .inl ⟨m, rfl, rfl⟩

/-- What RUN can do (R140). -/
theorem execRun_cases (now : BitVec 32) (s : State) :
    (s.on = false ∧ execRun now s = .next (blackout s)) ∨
    (s.on = true ∧ s.modeCfg.strategy = .scroll ∧ execRun now s = .next (runScroll s.modeCfg now s)) ∨
    (s.on = true ∧ s.modeCfg.strategy = .crossfade ∧ execRun now s = .next (runCrossfade s.modeCfg now s)) ∨
    (s.on = true ∧ s.modeCfg.strategy = .fire ∧ fireHeat s.cfg s.heat s.rnd = none ∧
      execRun now s = .refused .randomAnswerOutOfRange) ∨
    (s.on = true ∧ s.modeCfg.strategy = .fire ∧ ∃ h c, fireHeat s.cfg s.heat s.rnd = some (h, c) ∧
      execRun now s = .next (heatRender { s with heat := h, rnd := c })) := by
  cases ho : s.on
  · exact .inl ⟨rfl, by simp [execRun, ho, runOff]⟩
  · cases hg : s.modeCfg.strategy
    · exact .inr (.inl ⟨rfl, rfl, by simp [execRun, ho, hg]⟩)
    · exact .inr (.inr (.inl ⟨rfl, rfl, by simp [execRun, ho, hg]⟩))
    · cases hf : fireHeat s.cfg s.heat s.rnd with
      | none => exact .inr (.inr (.inr (.inl ⟨rfl, rfl, rfl, by simp [execRun, ho, hg, runFire, hf]⟩)))
      | some q =>
        obtain ⟨h, c⟩ := q
        exact .inr (.inr (.inr (.inr ⟨rfl, rfl, h, c, rfl, by simp [execRun, ho, hg, runFire, hf]⟩)))

end Sys2Proof.Machine
end

