-- ==== Sys2Proof/Laws/Fire.lean ====
section
/-! SUPPORT. The heat field keeps its length through every operation of a fire tick (spec/44_run_fire.md R170 to R176). -/

namespace Sys2Proof.Machine

@[simp] theorem diffuse_length (g : FireGrain) (h : List Byte) : (diffuse g h).length = h.length := by simp [diffuse]

theorem diffuse_getElem? (g : FireGrain) (h : List Byte) (k : Nat) (hk : k < h.length) :
    (diffuse g h)[k]? = some (newHeat g h k) := by simp [diffuse, hk]

@[simp] theorem heatCell_length (h : List Byte) (y b : Nat) : (heatCell h y b).length = h.length := by simp [heatCell]

/-- `Cool` keeps the number of cells and asks for `cmax` once per cell (R172). -/
theorem cool_spec {cmax : Nat} {h h' : List Byte} {c c' : RandomChannel} (hc : 1 ≤ cmax) (e : cool cmax h c = some (h', c')) :
    h'.length = h.length ∧ c'.requests = c.requests ++ List.replicate h.length cmax := by
  induction h generalizing c h' with
  | nil => simp only [cool, Option.some.injEq, Prod.mk.injEq] at e; obtain ⟨rfl, rfl⟩ := e; simp
  | cons x rest ih =>
    rw [cool] at e
    split at e
    · cases e
    · next d c₁ hd =>
      split at e
      · cases e
      · next cooled c₂ hr =>
        simp only [Option.some.injEq, Prod.mk.injEq] at e
        obtain ⟨rfl, rfl⟩ := e
        obtain ⟨hl, hq⟩ := ih hr
        have hq₁ := (RandomChannel.draw_spec hc hd).2.1
        simp [hl, hq, hq₁, List.replicate_succ]

/-- What a spark attempt can do (R176): nothing after one draw, or a boost of one cell after three. -/
theorem spark_cases {sp zone : Nat} {h h' : List Byte} {c c' : RandomChannel} (e : spark sp zone h c = some (h', c')) :
    ∃ r c₁, c.draw 256 = some (r, c₁) ∧
      ((¬ r < sp ∧ h' = h ∧ c' = c₁) ∨
       (r < sp ∧ ∃ y c₂ v, c₁.draw zone = some (y, c₂) ∧ c₂.draw 95 = some (v, c') ∧ h' = heatCell h y (160 + v))) := by
  unfold spark at e
  split at e
  · cases e
  · next r c₁ hr =>
    refine ⟨r, c₁, hr, ?_⟩
    split at e
    · next hlt =>
      split at e
      · cases e
      · next y c₂ hy =>
        split at e
        · cases e
        · next v c₃ hv =>
          simp only [Option.some.injEq, Prod.mk.injEq] at e
          obtain ⟨rfl, rfl⟩ := e
          exact .inr ⟨hlt, y, c₂, v, hy, hv, rfl⟩
    · next hlt =>
      simp only [Option.some.injEq, Prod.mk.injEq] at e
      obtain ⟨rfl, rfl⟩ := e
      exact .inl ⟨hlt, rfl, rfl⟩

theorem spark_length {sp zone : Nat} {h h' : List Byte} {c c' : RandomChannel} (e : spark sp zone h c = some (h', c')) :
    h'.length = h.length := by
  obtain ⟨r, c₁, -, ⟨-, rfl, -⟩ | ⟨-, y, c₂, v, -, -, rfl⟩⟩ := spark_cases e <;> simp

theorem ignite_length {sp zone n : Nat} {h h' : List Byte} {c c' : RandomChannel}
    (e : ignite sp zone n h c = some (h', c')) : h'.length = h.length := by
  induction n generalizing h c with
  | zero => simp only [ignite, Option.some.injEq, Prod.mk.injEq] at e; exact e.1 ▸ rfl
  | succ n ih =>
    rw [ignite] at e
    split at e
    · cases e
    · next h₁ c₁ hs => exact (ih e).trans (spark_length hs)

/-- A fire tick is `Cool`, `Diffuse`, `Ignite` (R170). -/
theorem fireHeat_cases {p : Params} {h h' : List Byte} {c c' : RandomChannel} (e : fireHeat p h c = some (h', c')) :
    ∃ cooled c₁, cool (coolingBound p) h c = some (cooled, c₁) ∧
      ignite p.sparking.toNat p.sparkZone p.numSparks (diffuse p.fireGrain cooled) c₁ = some (h', c') := by
  unfold fireHeat at e
  split at e
  · cases e
  · next cooled c₁ hc => exact ⟨cooled, c₁, hc, e⟩

theorem coolingBound_pos (p : Params) : 1 ≤ coolingBound p := Nat.le_add_left 1 _

theorem fireHeat_length {p : Params} {h h' : List Byte} {c c' : RandomChannel} (e : fireHeat p h c = some (h', c')) :
    h'.length = h.length := by
  obtain ⟨cooled, c₁, hc, hi⟩ := fireHeat_cases e
  have := ignite_length hi
  have := (cool_spec (coolingBound_pos p) hc).1
  simp_all

end Sys2Proof.Machine
end

