-- ==== Sys2Proof/Laws/Memory.lean ====
section
/-! SUPPORT. The memories keep their shape: `Memory.wf` holds of a reset state and every memory operation keeps it
(spec/20_memory.md R60, R62, R64, R68). -/

namespace Sys2Proof.Machine

theorem Memory.wf_iff (s : State) : Memory.wf s = true ↔ s.fb.length = s.cfg.numLeds ∧ s.heat.length = s.cfg.cellCount := by
  simp [Memory.wf]

theorem memWrite_wf (i : Nat) (v : Rgb) (s : State) (h : Memory.wf s = true) : Memory.wf (memWrite i v s) = true := by
  simpa [Memory.wf_iff] using h

theorem writeFrame_wf (pixel : Nat → Rgb) (s : State) (h : Memory.wf s = true) : Memory.wf (writeFrame pixel s) = true := by
  simp_all [Memory.wf_iff]

theorem blackout_wf (s : State) (h : Memory.wf s = true) : Memory.wf (blackout s) = true := writeFrame_wf _ s h

theorem heatRender_wf (s : State) (h : Memory.wf s = true) : Memory.wf (heatRender s) = true := writeFrame_wf _ s h

theorem scrollRender_wf (range : Byte) (masked : Bool) (s : State) (h : Memory.wf s = true) :
    Memory.wf (scrollRender range masked s) = true := writeFrame_wf _ s h

/-- The heat field a fire tick leaves has as many cells as before. -/
theorem fireHeat_wf (s : State) (h : Memory.wf s = true) {heat : List Byte} {rnd : RandomChannel}
    (e : fireHeat s.cfg s.heat s.rnd = some (heat, rnd)) : Memory.wf { s with heat := heat, rnd := rnd } = true := by
  have := fireHeat_length e
  simp_all [Memory.wf_iff, State.cfg]

theorem enterMode_wf (m : Mode) (s : State) (h : Memory.wf s = true) : Memory.wf (enterMode m s) = true := by
  simp_all [Memory.wf_iff, enterMode, State.cfg]

theorem resetOf_wf (p : LegalParams) (i : List Input) (r : RandomChannel) (q : PaletteChannel) (l : List Byte)
    (o : List (BitVec 24)) : Memory.wf (State.resetOf p i r q l o) = true := by
  simp [Memory.wf_iff, State.resetOf, State.cfg]

theorem reset_wf : Memory.wf State.reset = true := resetOf_wf ..

theorem applyReset_wf (s : State) : Memory.wf (applyReset s) = true := resetOf_wf ..

end Sys2Proof.Machine
end

