-- ==== Sys2Proof/Laws/Palette.lean ====
section
/-! SUPPORT. Palettes are their 16 stops (spec/40_palette_interpolator.md R100); packing loses nothing (spec/00_scope.md R9). -/

namespace Sys2Proof

theorem Palette.stop_ofFn (f : Nat → Rgb) (k : Nat) : (Palette.ofFn f).stop k = f (k % 16) := by
  have : k % 16 < 16 := Nat.mod_lt _ (by decide)
  simp [Palette.ofFn, Palette.stop, List.getD_eq_getElem?_getD, this]

@[simp] theorem Palette.stop_mod (p : Palette) (k : Nat) : p.stop (k % 16) = p.stop k := by
  simp [Palette.stop]

theorem Palette.stop_map₂ (f : Rgb → Rgb → Rgb) (p q : Palette) (k : Nat) :
    (Palette.map₂ f p q).stop k = f (p.stop k) (q.stop k) := by
  simp [Palette.map₂, Palette.stop_ofFn]

/-- Two palettes with the same 16 stops are equal. -/
theorem Palette.eq_of_stops {p q : Palette} (h : ∀ k, k < 16 → p.stop k = q.stop k) : p = q := by
  obtain ⟨l, hl⟩ := p
  obtain ⟨m, hm⟩ := q
  have : l = m := by
    refine List.ext_getElem (hl.trans hm.symm) fun k hk hk' => ?_
    have := h k (hl ▸ hk)
    rw [hl] at hk
    simpa [Palette.stop, Nat.mod_eq_of_lt hk, List.getD_eq_getElem?_getD, hl, hm, hk] using this
  subst this
  rfl

theorem Rgb.pack_toNat (c : Rgb) : c.pack.toNat = c.r.toNat * 65536 + c.g.toNat * 256 + c.b.toNat := by
  have hg := c.g.isLt
  have hb := c.b.isLt
  simp only [Rgb.pack, BitVec.toNat_append]
  rw [← Nat.shiftLeft_add_eq_or_of_lt (by omega), ← Nat.shiftLeft_add_eq_or_of_lt (by omega)]
  simp only [Nat.shiftLeft_eq]
  omega

@[simp] theorem Rgb.pack_unpack (w : BitVec 24) : (Rgb.unpack w).pack = w := by
  apply BitVec.eq_of_toNat_eq
  have := w.isLt
  rw [Rgb.pack_toNat]
  simp [Rgb.unpack, Nat.shiftRight_eq_div_pow]
  omega

@[simp] theorem Rgb.unpack_pack (c : Rgb) : Rgb.unpack c.pack = c := by
  obtain ⟨r, g, b⟩ := c
  have hr := r.isLt
  have hg := g.isLt
  have hb := b.isLt
  have hp := Rgb.pack_toNat ⟨r, g, b⟩
  simp only at hp
  simp only [Rgb.unpack, Rgb.mk.injEq]
  refine ⟨?_, ?_, ?_⟩ <;> apply BitVec.eq_of_toNat_eq <;> simp [hp, Nat.shiftRight_eq_div_pow] <;> omega

end Sys2Proof
end

