-- ==== Sys2Proof/Laws/PerInstr.lean ====
section
/-! SUPPORT. Facts about every command as syntax, one lemma per constructor (LAWS.json names the families). -/

namespace Sys2Proof.Laws

/-- R88: the word of a command agrees with its row's match word on the bits of its row's mask. -/
def WordShape.Statement (i : Instr) : Prop := encode i &&& i.opcode.maskWord = i.opcode.matchWord

theorem WordShape.nop : WordShape.Statement .nop := by unfold WordShape.Statement; decide

theorem WordShape.setmode (mode : Byte) : WordShape.Statement (.setmode mode) := by
  revert mode; unfold WordShape.Statement; decide

theorem WordShape.run (now : BitVec 32) : WordShape.Statement (.run now) := by
  unfold WordShape.Statement
  apply BitVec.eq_of_getLsbD_eq
  intro j hj
  have hm : ∀ k, k < 40 → Opcode.run.maskWord.getLsbD k = decide (32 ≤ k) := by decide
  have hw : ∀ k, k < 40 → Opcode.run.matchWord.getLsbD k = (decide (32 ≤ k) && (0x02#8).getLsbD (k - 32)) := by decide
  simp only [encode, Instr.opcode, Opcode.toByte, Instr.arg, BitVec.getLsbD_and, hm j hj, hw j hj]
  rw [BitVec.getLsbD_append]
  by_cases h : j < 32
  · simp [h, Nat.not_le.mpr h]
  · simp [h, Nat.not_lt.mp h]

theorem WordShape.off : WordShape.Statement .off := by unfold WordShape.Statement; decide

theorem WordShape.on : WordShape.Statement .on := by unfold WordShape.Statement; decide

theorem WordShape.setbright (level : Byte) : WordShape.Statement (.setbright level) := by
  revert level; unfold WordShape.Statement; decide

theorem WordShape.setblend (blend : BitVec 1) : WordShape.Statement (.setblend blend) := by
  revert blend; unfold WordShape.Statement; decide

theorem WordShape.sample (idx : Byte) : WordShape.Statement (.sample idx) := by
  revert idx; unfold WordShape.Statement; decide

end Sys2Proof.Laws
end

