-- ==== Sys2Proof/Tests/Slice0.lean ====
section
/-! SUPPORT. The model's own tests. Expected values are those of spec/95_test_vectors.md (the vector or program step is named) or are
worked out from the cited rule; none is the model's own answer. -/

namespace Sys2Proof.Tests

open Sys2Proof.Machine

/-! The test palettes of part 0 and small instances. -/

def tpA : Palette := .ofFn fun k => ⟨BitVec.ofNat 8 (16 * k), BitVec.ofNat 8 (255 - 16 * k), BitVec.ofNat 8 (37 * k)⟩
def tpB : Palette := .ofFn fun k => ⟨BitVec.ofNat 8 (200 + 3 * k), BitVec.ofNat 8 (10 * k), BitVec.ofNat 8 (255 - 5 * k)⟩
def tpC : Palette := .ofFn fun k => ⟨BitVec.ofNat 8 k, BitVec.ofNat 8 k, BitVec.ofNat 8 k⟩
def tpH : Palette := .ofFn fun k => ⟨BitVec.ofNat 8 (17 * k), BitVec.ofNat 8 (8 * k), BitVec.ofNat 8 k⟩

def testCatalog : Catalog where
  rainbowP := tpA
  heatP := tpH
  partyP := tpB
  spectralP := tpA
  brbgP := tpC
  yiygP := tpC

/-- An instance with the default mode table and the given geometry, grain and fire constants. -/
def testParams (tiles size : Nat) (grain : FireGrain) (cooling sparking : Byte) (sparks zone : Nat) : Params where
  numTiles := tiles
  tileSize := size
  fireGrain := grain
  cooling := cooling
  sparking := sparking
  numSparks := sparks
  sparkZone := zone
  maskPeriodMs := 60
  targetPeriodMs := 5000
  catalog := testCatalog
  modeTable := Config.defaultModeTable
  defaultMode := .rainbow
  steppedSelect := .lower

/-- The instance of program P1. -/
def p1 : LegalParams := ⟨testParams 9 3 .coarse 55 120 1 3, by decide⟩
/-- The instance of program P2. -/
def p2 : LegalParams := ⟨testParams 4 3 .coarse 55 120 1 3, by decide⟩
/-- The instance of program P3. -/
def p3 : LegalParams := ⟨testParams 4 2 .coarse 20 120 2 2, by decide⟩
/-- The instance of program P3b. -/
def p3b : LegalParams := ⟨testParams 2 3 .fine 30 200 1 3, by decide⟩
/-- The instance of programs P4 and P5. -/
def p4 : LegalParams := ⟨testParams 4 1 .coarse 55 120 1 3, by decide⟩

/-- The reset state of an instance. -/
def fresh (p : LegalParams) : State := State.resetOf p [] ⟨[], []⟩ ⟨[], 0⟩ [] []

/-- The reset state of an instance in mode `m` with its catalog palette or the given one. -/
def inMode (p : LegalParams) (m : Mode) (pal : Palette) : State := { fresh p with mode := m, period := (p.val.modeTable.config m).period, curPal := pal, tgtPal := pal }

/-- The state a step leaves, or the one it began in where it has no next state. -/
def after (o : Host.Outcome State Fault Refusal) (s : State) : State :=
  match o with
  | .next t => t
  | .fault _ => s
  | .refused _ => s

/-- Did the step go on? -/
def goesOn (o : Host.Outcome State Fault Refusal) : Bool :=
  match o with
  | .next _ => true
  | .fault _ => false
  | .refused _ => false

/-- The frame as packed values. -/
def frame (s : State) : List (BitVec 24) := s.fb.map Rgb.pack

/-- One packed value for each tile of three LEDs, each repeated on its LEDs. -/
def triples (l : List (BitVec 24)) : List (BitVec 24) := l.flatMap fun c => [c, c, c]

/-! WellFormed: an ill-formed command for its one check (R86, R87). -/

theorem test_setmode9_ill_formed : (Instr.setmode 9).wellFormed = false := by decide
theorem test_setmode255_ill_formed : (Instr.setmode 255).wellFormed = false := by decide
theorem test_setmode8_well_formed : (Instr.setmode 8).wellFormed = true := by decide

/-! Decoding: a word written out bit by bit from R80 to R83 for every command (V-DEC-1, 6, 12 to 18, V-BL-2, V-SMP-30). -/

theorem test_decode_nop : decode 0b00000000_00000000000000000000000000000000#40 = .ok .nop := by rfl
theorem test_decode_setmode : decode 0b00000001_00000000000000000000000000001000#40 = .ok (.setmode 8) := by rfl
theorem test_decode_run : decode 0b00000010_00000000000000000000001111101000#40 = .ok (.run 1000) := by rfl
theorem test_decode_run_full : decode 0b00000010_11111111111111111111111111111111#40 = .ok (.run 4294967295) := by rfl
theorem test_decode_off : decode 0b00000011_00000000000000000000000000000000#40 = .ok .off := by rfl
theorem test_decode_on : decode 0b00000100_00000000000000000000000000000000#40 = .ok .on := by rfl
theorem test_decode_setbright : decode 0b00000101_00000000000000000000000010000000#40 = .ok (.setbright 128) := by rfl
theorem test_decode_setblend : decode 0b00000110_00000000000000000000000000000001#40 = .ok (.setblend 1) := by rfl
theorem test_decode_sample : decode 0b00000111_00000000000000000000000000011101#40 = .ok (.sample 29) := by rfl

/-- V-DEC-2, 10, 15, 17, 19, V-BL-3, V-SMP-33: a must-be-zero bit set. -/
theorem test_decode_must_be_zero :
    [0x0000000001, 0x0100000100, 0x0300000001, 0x0480000000, 0x0500000100, 0x0600000002, 0x070000011D].map
      (fun w : CommandWord => decodeTableWord 40 w.toNat) = List.replicate 7 none := by decide
/-- V-DEC-3, 4, 5: reserved opcodes. -/
theorem test_decode_reserved :
    [0x0800000000, 0xFF00000000, 0xFFFFFFFFFF].map (fun w : CommandWord => decodeTableWord 40 w.toNat) =
      List.replicate 3 none := by decide
/-- The encoder on R81's rows: `RUN 1000`, `SETBRIGHT 0x80` (R131, R140). -/
theorem test_encode : [encode (.run 1000), encode (.setbright 0x80), encode (.setmode 3)] =
    [0x02000003E8, 0x0500000080, 0x0100000003] := by decide

/-! The interpolator (V-SMP-1 to V-SMP-20). -/

def smpIdx : List Byte := [0, 1, 8, 15, 16, 17, 29, 57, 85, 113, 128, 141, 169, 197, 225, 239, 240, 241, 248, 255]

theorem test_sample_linear : smpIdx.map (fun i => (sampleLinear tpA i).pack) =
    [0x00FF00, 0x01FE02, 0x08F712, 0x0FF022, 0x10EF25, 0x11EE27, 0x1DE243, 0x39C683, 0x55AAC4, 0x718E05,
     0x807F28, 0x8D7246, 0xA95686, 0xC53AC7, 0xE11E08, 0xEF1028, 0xF00F2B, 0xE11E28, 0x788715, 0x0FF002] := by decide
theorem test_sample_lower : smpIdx.map (fun i => (sampleStepped .lower tpA i).pack) =
    [0x00FF00, 0x00FF00, 0x00FF00, 0x00FF00, 0x10EF25, 0x10EF25, 0x10EF25, 0x30CF6F, 0x50AFB9, 0x708F03,
     0x807F28, 0x807F28, 0xA05F72, 0xC03FBC, 0xE01F06, 0xE01F06, 0xF00F2B, 0xF00F2B, 0xF00F2B, 0xF00F2B] := by decide
theorem test_sample_nearest : smpIdx.map (fun i => (sampleStepped .nearest tpA i).pack) =
    [0x00FF00, 0x00FF00, 0x10EF25, 0x10EF25, 0x10EF25, 0x10EF25, 0x20DF4A, 0x40BF94, 0x50AFB9, 0x708F03,
     0x807F28, 0x906F4D, 0xB04F97, 0xC03FBC, 0xE01F06, 0xF00F2B, 0xF00F2B, 0xF00F2B, 0x00FF00, 0x00FF00] := by decide

/-! The gate (V-GT-1 to V-GT-8), the nudge (V-NG-1 to V-NG-7). -/

theorem test_gate :
    [gate ⟨7, false⟩ 100 60, gate ⟨100, true⟩ 159 60, gate ⟨100, true⟩ 160 60, gate ⟨100, true⟩ 1000 60,
     gate ⟨0xFFFFFFF0, true⟩ 0x2B 60, gate ⟨0xFFFFFFF0, true⟩ 0x2C 60, gate ⟨1000, true⟩ 999 60, gate ⟨0, false⟩ 0 60] =
    [(false, ⟨100, true⟩), (false, ⟨100, true⟩), (true, ⟨160, true⟩), (true, ⟨1000, true⟩),
     (false, ⟨0xFFFFFFF0, true⟩), (true, ⟨0x2C, true⟩), (true, ⟨999, true⟩), (false, ⟨0, true⟩)] := by decide
theorem test_nudge :
    [nudge 12 200 100, nudge 12 95 100, nudge 12 100 100, nudge 12 0 255, nudge 24 255 0, nudge 24 250 255, nudge 24 5 0] =
    [188, 100, 100, 12, 231, 255, 0] := by decide

/-! The heat field (V-DIFC-1, 2, 9, V-DIFF-1, 2, 8, V-COOL-1, 2, 5, V-IGN-1, V-HR-1 to V-HR-10). -/

theorem test_diffuse_coarse :
    [diffuse .coarse [100, 200, 60, 255, 255, 255], diffuse .coarse [255, 0, 0, 0], diffuse .coarse [0, 149, 0, 0]] =
    [[100, 150, 155, 207, 255, 255], [255, 127, 63, 0], [0, 74, 74, 37]] := by decide
theorem test_diffuse_fine :
    [diffuse .fine [80, 40, 200, 16, 0], diffuse .fine [255, 0, 0, 0, 0], diffuse .fine [0, 0, 203, 0, 0, 0]] =
    [[80, 64, 97, 99, 61], [255, 153, 72, 31, 0], [0, 0, 58, 76, 50, 25]] := by decide
theorem test_cool : cool 2552 [200, 40, 255] ⟨[62, 50, 2551], []⟩ = some ([138, 0, 0], ⟨[], [2552, 2552, 2552]⟩) := by decide
/-- V-IGN-5: both boosts land in cell 0. -/
theorem test_ignite_twice : ignite 120 2 2 [0, 0] ⟨[119, 0, 94, 0, 0, 0], []⟩ =
    some ([255, 0], ⟨[], [256, 2, 95, 256, 2, 95]⟩) := by decide
/-- V-IGN-3: a spark that does not fire consumes one draw. -/
theorem test_ignite_none : ignite 120 3 1 [9, 9, 9] ⟨[120, 7], []⟩ = some ([9, 9, 9], ⟨[7], [256]⟩) := by decide
/-- U4: an answer at the bound has no meaning. -/
theorem test_cool_refuses : cool 52 [1] ⟨[52], []⟩ = none := by decide
theorem test_heatIndex : [(0 : Byte), 1, 2, 16, 17, 127, 128, 200, 254, 255].map heatIndex =
    [0, 0, 1, 15, 16, 119, 120, 188, 239, 240] := by decide

/-! One step of each command. -/

/-- P5 step 9: NOP leaves every element as it was. -/
theorem test_nop : exec .nop (fresh p4) = .next (fresh p4) := by rfl

/-- P1 step 3: `SETMODE PARTY`. -/
theorem test_setmode_party :
    let t := after (exec (.setmode 3) { fresh p1 with offset := 2, heat := [9] }) (fresh p1)
    (t.mode, t.period, t.offset, t.curPal, t.heat, t.logOut) =
      (Mode.party, 10, 0, tpB, List.replicate 9 0, [3]) := by decide
/-- P4 step 1 (V-SM-12): the first palette drawn is the current one. -/
theorem test_setmode_random :
    let t := after (exec (.setmode 5) { fresh p4 with pal := ⟨[tpA.toData, tpB.toData], 0⟩ }) (fresh p4)
    (t.curPal, t.tgtPal, t.pal) = (tpA, tpB, ⟨[], 2⟩) := by decide

/-- P1 step 1 (V-SCR-20), the source's scenario. -/
theorem test_run_scroll :
    let t := after (exec (.run 0) (fresh p1)) (fresh p1)
    (t.offset, frame t) = (1, triples [0x01FE02, 0x1DE243, 0x39C683, 0x55AAC4, 0x718E05, 0x8D7246, 0xA95686, 0xC53AC7, 0xE11E08]) := by
  decide
/-- P2 step 4: the mask gate fires, and the counter moves before the render. -/
theorem test_run_masked :
    let s := { inMode p2 .rainbow3 tpA with offset := 2, maskGate := ⟨100, true⟩ }
    let t := after (exec (.run 160) s) s
    (t.offset, t.secCnt, t.maskGate, frame t) = (3, 1, ⟨160, true⟩,
      [0, 0, 0, 0, 0x42BD98, 0x42BD98, 0x817E2A, 0x817E2A, 0x817E2A, 0xC03FBC, 0, 0]) := by decide
/-- P3 step 3: a coarse fire tick with both sparks in cell 0. -/
theorem test_run_fire_coarse :
    let s := { inMode p3 .fire tpH with heat := [0, 200, 0, 0], rnd := ⟨[10, 51, 0, 5, 119, 0, 94, 0, 0, 0], []⟩ }
    let t := after (exec (.run 30) s) s
    (t.heat, t.rnd, frame t) = ([255, 74, 74, 37], ⟨[], [52, 52, 52, 52, 256, 2, 95, 256, 2, 95]⟩,
      [0xFF780F, 0xFF780F, 0x492204, 0x492204, 0x492204, 0x492204, 0x241102, 0x241102]) := by decide
/-- P3b step 4: a fine fire tick without a spark. -/
theorem test_run_fire_fine :
    let s := { inMode p3b .fire tpH with heat := [160, 0, 58, 76, 50, 25], rnd := ⟨[1, 2, 3, 4, 5, 6, 200], []⟩ }
    let t := after (exec (.run 60) s) s
    (t.heat, t.rnd.answers, frame t) = ([159, 95, 61, 58, 52, 46], [],
      [0x9E4A09, 0x5E2C05, 0x3C1C03, 0x391B03, 0x331803, 0x2D1502]) := by decide
/-- P4 step 2: the first tick of a crossfade nudges and arms. -/
theorem test_run_crossfade :
    let s := { inMode p4 .random tpA with tgtPal := tpB }
    let t := after (exec (.run 1000) s) s
    (t.tgtGate, t.tgtPal, frame t) = (⟨1000, true⟩, tpB, [0x0CF30C, 0x4BB49D, 0x8A752F, 0xC94EBD]) := by decide
/-- P4 step 25: the gate fires and the drawn palette becomes the target. -/
theorem test_run_new_target :
    let s := { inMode p4 .random tpB with tgtGate := ⟨1000, true⟩, pal := ⟨[tpC.toData], 2⟩ }
    let t := after (exec (.run 6000) s) s
    (t.tgtGate, t.tgtPal, t.curPal, t.pal) = (⟨6000, true⟩, tpC, tpB, ⟨[], 3⟩) := by decide
/-- V-PW-3: RUN while off. -/
theorem test_run_off :
    let s := { fresh p4 with on := false, offset := 5, fb := [⟨1, 2, 3⟩, Rgb.black, Rgb.black, Rgb.black] }
    exec (.run 1000) s = .next { s with fb := List.replicate 4 Rgb.black } := by rfl

/-- V-PW-1. -/
theorem test_off :
    let s := { fresh p4 with offset := 5, fb := [⟨1, 2, 3⟩, Rgb.black, Rgb.black, Rgb.black] }
    exec .off s = .next { s with on := false, fb := List.replicate 4 Rgb.black } := by rfl
/-- V-PW-2: ON does not render. -/
theorem test_on :
    let s := { fresh p4 with on := false, offset := 5 }
    exec .on s = .next { s with on := true } := by rfl
/-- P5 step 3. -/
theorem test_setbright : (after (exec (.setbright 0x80) (fresh p4)) (fresh p4)).statusPort =
    ⟨0, 10, 128, 0x03, 0⟩ := by decide
/-- P5 step 4 (V-BL-1), with both error flags set: `STATUS` is 0x0D. -/
theorem test_setblend :
    (after (exec (.setblend 0) { fresh p4 with errCmd := true, errMode := true }) (fresh p4)).status = 0x0D := by decide
/-- P5 steps 5 and 8: `SAMPLE 29` stepped and linear. -/
theorem test_sample :
    ((after (exec (.sample 29) { fresh p4 with blend := .stepped }) (fresh p4)).result.pack,
      (after (exec (.sample 29) (fresh p4)) (fresh p4)).result.pack) = (0x10EF25, 0x1DE243) := by decide

/-! Errors, reset and the sink. -/

/-- P5 steps 1 and 2: a reserved opcode, then a reserved mode. -/
theorem test_errors :
    ((after (step ((fresh p4).withFetchWord 40 0x0800000000)) (fresh p4)).status,
      (after (step ({ fresh p4 with errCmd := true }.withFetchWord 40 0x0100000009)) (fresh p4)).status) = (0x07, 0x0F) := by decide
/-- V-DEC-11: `0x01000001FF` sets `ERR_CMD` only. -/
theorem test_error_priority :
    step ((fresh p4).withFetchWord 40 0x01000001FF) = .next { fresh p4 with errCmd := true } := by rfl
/-- V-RST-3: nothing persists. -/
theorem test_reset :
    step { fresh p4 with errCmd := true, on := false, bright := 7, inputs := [.reset] } = .next (fresh p4) := by rfl
/-- V-RST-1: `STATUS = 0x03` after reset, whatever the open parameters are. -/
theorem test_reset_status : State.reset.statusPort = ⟨0, 10, 255, 0x03, 0⟩ := by decide
/-- R61: the sink reads the entry at its address. -/
theorem test_sink : (after (step { fresh p4 with
      fb := [⟨1, 2, 3⟩, ⟨4, 5, 6⟩, Rgb.black, Rgb.black], inputs := [.sinkRead 1] }) (fresh p4)).sinkOut = [0x040506] := by decide
/-- R212: an illegal parameter set is refused. -/
theorem test_illegal_instance : LegalParams.build (testParams 0 3 .coarse 55 120 1 1) = none := by decide

/-! The text form (R89, R90; words from P1, P2, P5). -/

theorem test_assemble :
    assemble ["SETMODE PARTY ; the third mode".toList, "RUN 1000".toList, "TICK 1000".toList, "SETBRIGHT 0x80".toList,
      "OFF".toList, "SETBLEND STEPPED".toList, "SETMODE 9".toList, "SAMPLE 29".toList] =
    some [0x0100000003, 0x02000003E8, 0x02000003E8, 0x0500000080, 0x0300000000, 0x0600000000, 0x0100000009, 0x070000001D] := by
  decide

/-! Every row's word runs as the first command after reset. -/

theorem test_first_command_after_reset :
    [0x0000000000, 0x0100000004, 0x02000003E8, 0x0300000000, 0x0400000000, 0x0500000080, 0x0600000000, 0x070000001D].map
      (fun w => goesOn (step (State.reset.withFetchWord 40 w))) = List.replicate 8 true := by decide

/-! Witnesses: for each obligation with hypotheses, concrete states and operands that meet them, clause by clause. -/

open Sys2Proof.Spec

/-- `s` with the word presented next. -/
def given (w : CommandWord) (s : State) : State := { s with inputs := [.command w] }
/-- A fresh instance in the masked scroll mode. -/
def masked : State := inMode p4 .rainbow3 tpA
/-- A fresh instance in the crossfade mode, its two palettes apart. -/
def fading : State := { inMode p4 .random tpA with tgtPal := tpB }
/-- A fresh instance in the fire mode, with these answers listed. -/
def burning (answers : List (BitVec 16)) : State := { inMode p3 .fire tpH with rnd := ⟨answers, []⟩ }
/-- A fresh instance, off. -/
def dark : State := { fresh p4 with on := false }

theorem witness_MatchAndMaskNameTheCommand :
    Opcode.nop.matches 0 = true ∧ (∀ o : Opcode, o.matches 0x0800000000 = false) ∧
    [0x0100000009, 0x01000000FF].map (fun w => (Opcode.setmode.matches w, decide (8 < (w.extractLsb' 0 8).toNat))) =
      [(true, true), (true, true)] ∧
    (given 0x0100000009 (fresh p4)).inputs = .command 0x0100000009 :: [] := by
  refine ⟨by decide, fun o => ?_, by decide, rfl⟩
  cases o <;> decide

theorem witness_EveryWordIsOneCommandOrOneError :
    spellsNoCommand 0x0800000000 ∧ spellsNoCommand 0x0000000001 ∧ spellsNoCommand 0x0380000000 ∧
    (¬ spellsNoCommand 0x0100000009 ∧ opField 0x0100000009 = 1 ∧ 8 < ((0x0100000009 : CommandWord).extractLsb' 0 8).toNat) ∧
    (¬ spellsNoCommand 0x0100000008 ∧ ¬ (opField 0x0100000008 = 1 ∧ 8 < ((0x0100000008 : CommandWord).extractLsb' 0 8).toNat)) ∧
    (given 0x0100000008 (fresh p4)).inputs = .command 0x0100000008 :: [] := by
  have none_of : ∀ c : CommandWord, opField c = 1 → (∀ j, j < 32 → 8 ≤ j → (argField c).getLsbD j = false) → ¬ spellsNoCommand c := by
    rintro c hc hz (h | ⟨o, ho, j, hj, hb⟩)
    · rw [hc] at h; exact absurd h (by decide)
    · rw [hc] at ho
      have : o = .setmode := by cases o <;> first | rfl | exact absurd ho (by decide)
      subst this
      rw [hz j hj.2 hj.1] at hb
      cases hb
  refine ⟨.inl (by decide), .inr ⟨.nop, by decide, 0, ?_, by decide⟩, .inr ⟨.off, by decide, 31, ?_, by decide⟩,
    ⟨none_of _ (by decide) (by decide), by decide, by decide⟩, ⟨none_of _ (by decide) (by decide), by decide⟩, rfl⟩
  · show 0 < 32; omega
  · show 31 < 32; omega

theorem witness_StepRunsTheDecodedCommand :
    (given 0x0400000000 dark).inputs = .command 0x0400000000 :: [] ∧ decode 0x0400000000 = .ok .on ∧
    decodeTableWord 40 0x0400000000 = some .on ∧ (fresh p4).inputs = [] := ⟨rfl, rfl, by decide, rfl⟩

/-- The must-be-zero clauses of the plain commands: the lowest operand that is too wide. -/
theorem witness_operands_too_wide :
    (1 : BitVec 32) ≠ 0 ∧ (0x80000000 : BitVec 32) ≠ 0 ∧ (256 : BitVec 32).toNat ≥ 256 ∧ (2 : BitVec 32).toNat ≥ 2 := by decide

theorem witness_OffBlacksTheFrame : ∃ t, exec .off (fresh p4) = .next t := ⟨_, rfl⟩

theorem witness_OnResumesWhereItLeftOff : (fresh p4).on = true := rfl

theorem witness_BrightnessIsStoredAndNeverRead : ∀ l, Instr.run 5 ≠ .setbright l := by intro l h; cases h

theorem witness_SetblendWritesTheFlag :
    ((0 : Byte).toNat ≤ 8 ∧ (8 : Byte).toNat ≤ 8) ∧ ({ dark with inputs := [.reset] } : State).inputs = .reset :: [] := by decide

theorem witness_SetmodeAssignsTheConfiguration :
    ((0 : Byte).toNat ≤ 8 ∧ (8 : Byte).toNat ≤ 8) ∧ (8 < (9 : Byte).toNat ∧ 8 < (255 : Byte).toNat) := by decide

theorem witness_ResolveIsThePaletteMultiplexer : ((0 < 16 ∧ 0 < 24) ∧ (15 < 16 ∧ 23 < 24)) := by decide

theorem witness_SetmodeIsAFullReinitialisation :
    ((fresh p4).cfg.modeTable.config .party).palette = .catalog .partyP ∧
    (∃ t, exec (.setmode Mode.party.code) (fresh p4) = .next t) ∧
    ((fresh p4).cfg.modeTable.config .random).palette = .randomPair ∧
    (∃ t, exec (.setmode Mode.random.code) (fresh p4) = .next t) := ⟨rfl, ⟨_, rfl⟩, rfl, ⟨_, rfl⟩⟩

theorem witness_OnlyASuccessfulSetmodeLogs :
    ((∃ t, exec .off (fresh p4) = .next t) ∧ ∀ m, Instr.off ≠ .setmode m) ∧
    (∃ t, exec (.setmode 8) (fresh p4) = .next t) ∧ (∃ t, exec (.setmode 9) (fresh p4) = .next t) ∧
    ((∀ w, Input.reset ≠ .command w) ∧ ∃ t, step { dark with inputs := [.reset] } = .next t) ∧
    ((∀ w, Input.sinkRead 3 ≠ .command w) ∧ ∃ t, step { dark with inputs := [.sinkRead 3] } = .next t) := by
  refine ⟨⟨⟨_, rfl⟩, ?_⟩, ⟨_, rfl⟩, ⟨_, rfl⟩, ⟨?_, ⟨_, rfl⟩⟩, ⟨?_, ⟨_, rfl⟩⟩⟩ <;> intro w h <;> cases h

theorem witness_RunWhileOffOnlyBlacks : dark.on = false := rfl

theorem witness_OffPeriodLeavesNoTrace : (fresh p4).on = true := rfl

theorem witness_GateFiresOnThePeriod :
    ((⟨7, false⟩ : Gate).armed = false) ∧
    ((⟨0xFFFFFFF0, true⟩ : Gate).armed = true ∧
      (60 : BitVec 32).toNat ≤ ((0x2C : BitVec 32).toNat + 2 ^ 32 - (0xFFFFFFF0 : BitVec 32).toNat) % 2 ^ 32) ∧
    ((⟨0xFFFFFFF0, true⟩ : Gate).armed = true ∧
      ((0x2B : BitVec 32).toNat + 2 ^ 32 - (0xFFFFFFF0 : BitVec 32).toNat) % 2 ^ 32 < (60 : BitVec 32).toNat) ∧
    ((∃ t, exec (.run 5) (fresh p4) = .next t) ∧ ¬ (runsBy (fresh p4) .scroll ∧ (fresh p4).modeCfg.masked = true)) ∧
    ((∃ t, exec (.run 5) masked = .next t) ∧ ¬ runsBy masked .crossfade) := by
  refine ⟨rfl, ⟨rfl, by decide⟩, ⟨rfl, by decide⟩, ⟨⟨_, rfl⟩, ?_⟩, ⟨⟨_, rfl⟩, ?_⟩⟩
  · rintro ⟨-, h⟩; exact absurd h (by decide)
  · rintro ⟨-, h⟩; exact absurd h (by decide)

theorem witness_RunScrollResult :
    (runsBy (fresh p4) .scroll ∧ (fresh p4).modeCfg.masked = false) ∧ (runsBy masked .scroll ∧ masked.modeCfg.masked = true) ∧
    (0 < masked.cfg.numLeds ∧ 3 < masked.cfg.numLeds) := ⟨⟨⟨rfl, rfl⟩, rfl⟩, ⟨⟨rfl, rfl⟩, rfl⟩, by decide⟩

theorem witness_UnmaskedTilesAreFlat :
    runsBy (fresh p2) .scroll ∧ (fresh p2).modeCfg.masked = false ∧ (∃ t, exec (.run 0) (fresh p2) = .next t) ∧
    3 < (fresh p2).cfg.numTiles ∧ 2 < (fresh p2).cfg.tileSize := ⟨⟨rfl, rfl⟩, rfl, ⟨_, rfl⟩, by decide⟩

theorem witness_OffsetLaw :
    (runsBy (inMode p4 .spectral tpA) .scroll ∧ ∀ i ∈ [Instr.run 1, .sample 3, .run 2], i ≠ .off ∧ ∀ m, i ≠ .setmode m) ∧
    (dark.on = false ∧ ∃ t, exec (.run 1) dark = .next t) :=
  ⟨⟨⟨rfl, rfl⟩, by
    intro i hi
    simp only [List.mem_cons, List.not_mem_nil, or_false] at hi
    rcases hi with rfl | rfl | rfl <;> exact ⟨Instr.noConfusion, fun m => Instr.noConfusion⟩⟩, rfl, ⟨_, rfl⟩⟩

theorem witness_RunCrossfadeResult :
    (runsBy fading .crossfade ∧ (gate fading.tgtGate 0 fading.cfg.targetPeriodMs).1 = false) ∧
    (gate { last := 1000, armed := true } 6000 fading.cfg.targetPeriodMs).1 = true ∧ 15 < 16 ∧ Rgb.b ∈ channels :=
  ⟨⟨⟨rfl, rfl⟩, by decide⟩, by decide, by decide, by simp [channels]⟩

theorem witness_NudgeMovesByTheStep : (95 : Byte).toNat < (100 : Byte).toNat ∧ (0 : Byte).toNat < (5 : Byte).toNat := by decide

theorem witness_CrossfadeConverges :
    (runsBy fading .crossfade ∧ 255 ≤ (List.replicate 22 (0 : BitVec 32)).length * fading.modeCfg.step.toNat ∧
      ∃ t, execAll (ticks (List.replicate 22 0)) fading = .next t ∧ t.pal.requests = fading.pal.requests) ∧
    (let s := inMode p4 .random tpB
     runsBy s .crossfade ∧ s.curPal = s.tgtPal ∧ ∃ t, exec (.run 0) s = .next t) :=
  ⟨⟨⟨rfl, rfl⟩, by decide, _, rfl, rfl⟩, ⟨rfl, rfl⟩, rfl, _, rfl⟩

theorem witness_FirstNewTargetWaitsForThePeriod :
    (fresh p4).on = true ∧ ((fresh p4).cfg.modeTable.config .random).strategy = .crossfade ∧
    (∀ w ∈ ([1000, 5999] : List (BitVec 32)),
      (w.toNat + 2 ^ 32 - (1000 : BitVec 32).toNat) % 2 ^ 32 < (fresh p4).cfg.targetPeriodMs.toNat) ∧
    (fresh p4).cfg.targetPeriodMs.toNat ≤ ((6000 : BitVec 32).toNat + 2 ^ 32 - (1000 : BitVec 32).toNat) % 2 ^ 32 ∧
    ((5999 : BitVec 32).toNat + 2 ^ 32 - (1000 : BitVec 32).toNat) % 2 ^ 32 < (fresh p4).cfg.targetPeriodMs.toNat :=
  ⟨rfl, rfl, by
    intro w hw
    simp only [List.mem_cons, List.not_mem_nil, or_false] at hw
    rcases hw with rfl | rfl <;> decide, by decide, by decide⟩

/-- `COOLING = 20` and four cells give `cmax = 52`: 51 is in range and 52 is not; likewise `SPARK_ZONE = 2` and 95. -/
theorem witness_FireCompletesOnAnswersInRange :
    (runsBy (burning [51, 51, 51, 51, 119, 1, 94, 120]) .fire ∧ fireAnswersInRange (burning [51, 51, 51, 51, 119, 1, 94, 120]) = true) ∧
    [burning [52], burning [0, 0, 0, 0, 256], burning [0, 0, 0, 0, 119, 2], burning [0, 0, 0, 0, 119, 1, 95]].map fireAnswersInRange =
      List.replicate 4 false ∧
    (runsBy (burning []) .fire ∧ (burning []).rnd.answers = []) :=
  ⟨⟨⟨rfl, rfl⟩, by decide⟩, by decide, ⟨rfl, rfl⟩, rfl⟩

theorem witness_FireTickFollowsItsDraws :
    let s := burning [51, 51, 51, 51, 119, 1, 94, 120]
    Memory.wf s = true ∧ runsBy s .fire ∧ goesOn (exec (.run 0) s) = true ∧ 7 < s.cfg.numLeds :=
  ⟨by decide, ⟨rfl, rfl⟩, by decide, by decide⟩

theorem witness_kernel_positions :
    0 < ([1] : List Byte).length ∧ 3 < ([1, 2, 3, 4] : List Byte).length ∧ (∀ v ∈ ([7, 9] : List Byte), v.toNat ≤ 9) := by decide

theorem witness_HeatMapReachesExactly240 : heatIndex 255 = 240 ∧ (254 : Byte).toNat ≤ (255 : Byte).toNat := by decide

theorem witness_HeatPersistsOutsideFire :
    let s := { burning [0, 0, 0, 0, 119, 0, 94, 120] with heat := [0, 200, 0, 0] }
    (goesOn (exec (.run 0) s) = true ∧ (after (exec (.run 0) s) s).heat ≠ s.heat) ∧
    (goesOn (exec (.setmode 8) s) = true ∧ (after (exec (.setmode 8) s) s).heat ≠ s.heat) ∧
    (goesOn (exec (.run 0) dark) = true ∧ dark.on = false) := by decide

theorem witness_GatelessModesIgnoreTheTimestamp :
    dark.on = false ∧ ((fresh p4).modeCfg.strategy = .scroll ∧ (fresh p4).modeCfg.masked = false) ∧
    (burning []).modeCfg.strategy = .fire := by decide

theorem witness_LinearSampleChannels : Rgb.r ∈ channels ∧ Rgb.g ∈ channels ∧ Rgb.b ∈ channels := by simp [channels]

theorem witness_SteppedSampleIsOneStop :
    (248 ≤ (248 : Byte).toNat ∧ 248 ≤ (255 : Byte).toNat) ∧ (16 * 0 ≤ (0 : Byte).toNat + 8 ∧ (7 : Byte).toNat ≤ 16 * 0 + 7) ∧
    (16 * 15 ≤ (232 : Byte).toNat + 8 ∧ (247 : Byte).toNat ≤ 16 * 15 + 7) := by decide

/-- What refutes R106 item 3 (log entry 23): stops 1 and 0, read at `f = 15`. -/
theorem witness_SampleNeverReachesNextStopInside :
    let p := Palette.ofFn fun k => if k = 0 then ⟨1, 0, 0⟩ else Rgb.black
    (p.stop 0).r ≠ (p.stop 1).r ∧ (sampleLinear p 15).r = (p.stop 1).r := by decide

theorem witness_SampleIsContinuousAndMonotone :
    (tpB.stop 15).r.toNat ≥ (tpB.stop 16).r.toNat ∧ (tpB.stop 0).r.toNat ≤ (tpB.stop 1).r.toNat := by decide

theorem witness_SampleWrapsAroundSeamlessly :
    (Palette.ofFn fun k => if k = 15 then ⟨9, 9, 9⟩ else if k = 0 then ⟨9, 9, 9⟩ else Rgb.black).stop 15 =
    (Palette.ofFn fun k => if k = 15 then ⟨9, 9, 9⟩ else if k = 0 then ⟨9, 9, 9⟩ else Rgb.black).stop 0 := by decide

theorem witness_FrameBufferReadsWhatWasWritten :
    0 < (fresh p4).fb.length ∧ 3 < (fresh p4).fb.length ∧ 0 ≠ 3 ∧ (fresh p4).fb.length = (fresh p4).cfg.numLeds := by decide

/-- The last entry, and the first address that has none. -/
theorem witness_SinkReadsTheFrame :
    (fresh p4).fb[(3 : BitVec 16).toNat]? = some Rgb.black ∧ (fresh p4).fb[(4 : BitVec 16).toNat]? = none := by decide

theorem witness_ErrorsChangeOnlyTheirFlag :
    let bad := given 0x0800000000 (fresh p4)
    let reserved := given 0x0100000009 (fresh p4)
    (goesOn (step bad) = true ∧ (after (step bad) bad).errCmd ≠ bad.errCmd) ∧
    (goesOn (step reserved) = true ∧ (after (step reserved) reserved).errMode ≠ reserved.errMode) := by decide

theorem witness_ErrorFlagsAreSticky :
    let s := given 0x0100000003 { fresh p4 with errCmd := true, errMode := true }
    goesOn (step s) = true ∧ (∀ rest, s.inputs ≠ .reset :: rest) ∧ s.errCmd = true ∧ s.errMode = true := by
  refine ⟨by decide, fun rest h => ?_, rfl, rfl⟩
  cases h

/-- Each clause of the table has a command that changes its element. -/
theorem witness_WriterTable :
    let m := after (exec (.run 160) { masked with maskGate := ⟨100, true⟩ }) masked
    let c := after (exec (.run 7) { fading with offset := 9 }) fading
    let d := after (exec (.setmode 3) { dark with secCnt := 4, blend := .stepped }) dark
    (m.secCnt ≠ masked.secCnt ∧ m.maskGate.last ≠ 100 ∧ m.offset ≠ masked.offset ∧ m.fb.length = 4) ∧
    (c.tgtGate.last ≠ fading.tgtGate.last ∧ c.curPal ≠ fading.curPal ∧ c.offset ≠ 9) ∧
    (d.mode ≠ dark.mode ∧ d.blend ≠ .stepped ∧ d.secCnt ≠ 4) ∧
    (after (exec .on dark) dark).on ≠ dark.on ∧ (after (exec (.setbright 7) dark) dark).bright ≠ dark.bright ∧
    (after (exec (.sample 1) dark) dark).result ≠ dark.result ∧ (after (exec (.setmode 9) dark) dark).errMode ≠ dark.errMode := by
  decide

theorem witness_DrawsOnlyWhereTheRulesCall :
    let f := burning [51, 51, 51, 51, 119, 1, 94, 120]
    let s := { fresh p4 with pal := ⟨[tpA.toData, tpB.toData], 0⟩ }
    let c := { fading with tgtGate := ⟨1000, true⟩, pal := ⟨[tpC.toData], 0⟩ }
    (after (exec (.run 0) f) f).rnd ≠ f.rnd ∧ (after (exec (.setmode 5) s) s).pal ≠ s.pal ∧
    (after (exec (.run 6000) c) c).pal ≠ c.pal := by decide

theorem witness_ParametersNeverChange : ∃ t, step { dark with inputs := [.reset] } = .next t := ⟨_, rfl⟩

/-- A reset of an instance whose default mode is `RANDOM`, and of one whose default mode is a catalog mode. -/
theorem witness_ResetGivesEveryElementItsValue :
    let s := { dark with inputs := [.reset] }
    let r := { s with params := ⟨{ testParams 4 1 .coarse 55 120 1 3 with defaultMode := .random }, by decide⟩ }
    (s.inputs = .reset :: [] ∧ (s.cfg.modeTable.config s.cfg.defaultMode).palette = .catalog .rainbowP) ∧
    (r.inputs = .reset :: [] ∧ (r.cfg.modeTable.config r.cfg.defaultMode).palette = .randomPair) :=
  ⟨⟨rfl, rfl⟩, rfl, rfl⟩

theorem witness_EveryStepKeepsTheInvariant :
    (∃ t, step (given 0x02000003E8 (fresh p4)) = .next t) ∧ (given 0x02000003E8 (fresh p4)).Inv := by
  refine ⟨⟨_, rfl⟩, ⟨by decide, by decide, rfl, ?_, fun _ => rfl, fun _ => rfl, fun _ => ⟨rfl, rfl⟩, fun _ => rfl, ?_, ?_, ?_⟩⟩
  · intro h; cases h
  · intro id h _
    have hid : PaletteChoice.catalog .rainbowP = .catalog id := h
    cases hid
    exact ⟨rfl, rfl⟩
  · intro n h; cases h
  · intro c h; cases h

end Sys2Proof.Tests
end

section
/-! SUPPORT. What a command can do, said once for every command, and where the random and palette channels move (O50). -/

namespace Sys2Proof.Machine

open Sys2Proof.Spec

/-- What a command that goes on can do: one constructor per effect, with the guard under which it happens (R120, R125, R129 to R131,
R110, R111, R140, R141). -/
inductive CommandEffect (s : State) : Instr → State → Prop
  | nop : CommandEffect s .nop s
  | enterMode (m : Mode) : CommandEffect s (.setmode m.code) (enterMode m s)
  | invalidMode (code : Byte) (reserved : Mode.ofCode code = none) : CommandEffect s (.setmode code) { s with errMode := true }
  | runOff (now : BitVec 32) (off : s.on = false) : CommandEffect s (.run now) (blackout s)
  | runScroll (now : BitVec 32) (running : runsBy s .scroll) : CommandEffect s (.run now) (runScroll s.modeCfg now s)
  | runCrossfade (now : BitVec 32) (running : runsBy s .crossfade) : CommandEffect s (.run now) (runCrossfade s.modeCfg now s)
  | runFire (now : BitVec 32) (running : runsBy s .fire) (heat : List Byte) (rnd : RandomChannel)
      (drawn : fireHeat s.cfg s.heat s.rnd = some (heat, rnd)) :
      CommandEffect s (.run now) (heatRender { s with heat := heat, rnd := rnd })
  | off : CommandEffect s .off (blackout { s with on := false })
  | on : CommandEffect s .on { s with on := true }
  | setbright (level : Byte) : CommandEffect s (.setbright level) { s with bright := level }
  | setblend (blend : BitVec 1) : CommandEffect s (.setblend blend) { s with blend := blendOperand blend }
  | sample (idx : Byte) : CommandEffect s (.sample idx) { s with result := s.sampleCurrent idx }

theorem commandEffect_of_execSetmode {s t : State} {code : Byte} (h : execSetmode code s = .next t) :
    CommandEffect s (.setmode code) t := by
  obtain ⟨m, hm, he⟩ | ⟨hn, he⟩ := execSetmode_cases code s
  · cases he.symm.trans h
    obtain rfl := Mode.code_of_ofCode hm
    exact .enterMode m
  · cases he.symm.trans h
    exact .invalidMode code hn

theorem commandEffect_of_execRun {s t : State} {now : BitVec 32} (h : execRun now s = .next t) :
    CommandEffect s (.run now) t := by
  obtain ⟨ho, he⟩ | ⟨ho, hg, he⟩ | ⟨ho, hg, he⟩ | ⟨-, -, -, he⟩ | ⟨ho, hg, heat, rnd, hf, he⟩ := execRun_cases now s
  · cases he.symm.trans h
    exact .runOff now ho
  · cases he.symm.trans h
    exact .runScroll now ⟨ho, hg⟩
  · cases he.symm.trans h
    exact .runCrossfade now ⟨ho, hg⟩
  · cases he.symm.trans h
  · cases he.symm.trans h
    exact .runFire now ⟨ho, hg⟩ heat rnd hf

/-- The inversion of `exec`: a command that goes on had one of the effects listed. -/
theorem commandEffect_of_exec {s t : State} {i : Instr} (h : exec i s = .next t) : CommandEffect s i t := by
  cases i with
  | nop => cases h; exact .nop
  | setmode code => exact commandEffect_of_execSetmode h
  | run now => exact commandEffect_of_execRun h
  | off => cases h; exact .off
  | on => cases h; exact .on
  | setbright level => cases h; exact .setbright level
  | setblend blend => cases h; exact .setblend blend
  | sample idx => cases h; exact .sample idx

/-! The two channels after each operation (R12, R13, R125, R141, R143, R160, R178). -/

@[simp] theorem blackout_rnd (s : State) : (blackout s).rnd = s.rnd := rfl
@[simp] theorem blackout_pal (s : State) : (blackout s).pal = s.pal := rfl
@[simp] theorem scrollRender_rnd (range : Byte) (masked : Bool) (s : State) : (scrollRender range masked s).rnd = s.rnd := rfl
@[simp] theorem scrollRender_pal (range : Byte) (masked : Bool) (s : State) : (scrollRender range masked s).pal = s.pal := rfl
@[simp] theorem heatRender_pal (s : State) : (heatRender s).pal = s.pal := rfl
@[simp] theorem enterMode_rnd (m : Mode) (s : State) : (enterMode m s).rnd = s.rnd := rfl
@[simp] theorem enterMode_pal (m : Mode) (s : State) :
    (enterMode m s).pal = (resolve s.cfg.catalog (s.cfg.modeTable.config m).palette s.pal).2.2 := rfl

@[simp] theorem runScroll_rnd (cfg : ModeConfig) (now : BitVec 32) (s : State) : (runScroll cfg now s).rnd = s.rnd := by
  unfold runScroll; split <;> simp

@[simp] theorem runScroll_pal (cfg : ModeConfig) (now : BitVec 32) (s : State) : (runScroll cfg now s).pal = s.pal := by
  unfold runScroll; split <;> simp

@[simp] theorem runCrossfade_rnd (cfg : ModeConfig) (now : BitVec 32) (s : State) : (runCrossfade cfg now s).rnd = s.rnd := rfl

@[simp] theorem runCrossfade_pal (cfg : ModeConfig) (now : BitVec 32) (s : State) :
    (runCrossfade cfg now s).pal = if (gate s.tgtGate now s.cfg.targetPeriodMs).1 then s.pal.draw.2 else s.pal := rfl

/-- `Resolve` moves the palette channel only for `RANDOM_PAIR`, and then by two requests (R126). -/
theorem resolve_pal_ne {cat : Catalog} {choice : PaletteChoice} {pal : PaletteChannel} (h : (resolve cat choice pal).2.2 ≠ pal) :
    choice = .randomPair ∧ (resolve cat choice pal).2.2.requests = pal.requests + 2 := by
  cases choice with
  | catalog id => exact absurd rfl h
  | randomPair => exact ⟨rfl, by simp⟩

/-- RUN in `CROSSFADE` moves the palette channel only where the new-target gate fires, and then by one request (R160). -/
theorem runCrossfade_pal_ne {cfg : ModeConfig} {now : BitVec 32} {s : State} (h : (runCrossfade cfg now s).pal ≠ s.pal) :
    (gate s.tgtGate now s.cfg.targetPeriodMs).1 = true ∧ (runCrossfade cfg now s).pal.requests = s.pal.requests + 1 := by
  cases hg : (gate s.tgtGate now s.cfg.targetPeriodMs).1
  · exact absurd (by simp [hg]) h
  · exact ⟨rfl, by simp [hg]⟩

/-- `Rand` is called by RUN in a fire mode only (R12). -/
theorem run_fire_of_rnd_ne {s t : State} {i : Instr} (e : CommandEffect s i t) (h : t.rnd ≠ s.rnd) :
    ∃ now, i = .run now ∧ runsBy s .fire := by
  cases e with
  | runFire now running heat rnd drawn => exact ⟨now, rfl, running⟩
  | _ => exact absurd (by simp) h

/-- `RandPalette` is called, twice, by SETMODE to a `RANDOM_PAIR` mode and, once, by RUN in a crossfade mode whose gate fires,
only (R13). -/
theorem setmode_or_crossfade_of_pal_ne {s t : State} {i : Instr} (e : CommandEffect s i t) (h : t.pal ≠ s.pal) :
    (∃ m : Mode, i = .setmode m.code ∧ (s.cfg.modeTable.config m).palette = .randomPair ∧
      t.pal.requests = s.pal.requests + 2) ∨
    (∃ now, i = .run now ∧ runsBy s .crossfade ∧ (gate s.tgtGate now s.cfg.targetPeriodMs).1 = true ∧
      t.pal.requests = s.pal.requests + 1) := by
  cases e with
  | enterMode m =>
    obtain ⟨hp, hq⟩ := resolve_pal_ne h
    exact .inl ⟨m, rfl, hp, hq⟩
  | runCrossfade now running =>
    obtain ⟨hg, hq⟩ := runCrossfade_pal_ne h
    exact .inr ⟨now, rfl, running, hg, hq⟩
  | _ => exact absurd (by simp) h

/-- Settles O50: by the inversion of `exec`, each channel moves in the listed effects only. -/
theorem drawsOnlyWhereTheRulesCall : Obligations.DrawsOnlyWhereTheRulesCall := by
  intro s t i h
  have e := commandEffect_of_exec h
  exact ⟨run_fire_of_rnd_ne e, setmode_or_crossfade_of_pal_ne e⟩

end Sys2Proof.Machine
end

section
/-! SUPPORT. What each operation of a command leaves unchanged, said once for each operation (R39). -/

namespace Sys2Proof.Machine

/-- Blacking the frame writes `FB` only (R129, R141). -/
@[simp] theorem blackout_frame (s : State) :
    let t := blackout s
    t.params = s.params ∧ t.mode = s.mode ∧ t.blend = s.blend ∧ t.period = s.period ∧ t.offset = s.offset ∧ t.on = s.on ∧
    t.bright = s.bright ∧ t.curPal = s.curPal ∧ t.tgtPal = s.tgtPal ∧ t.heat = s.heat ∧ t.secCnt = s.secCnt ∧
    t.maskGate = s.maskGate ∧ t.tgtGate = s.tgtGate ∧ t.result = s.result ∧ t.errCmd = s.errCmd ∧ t.errMode = s.errMode ∧
    t.inputs = s.inputs ∧ t.logOut = s.logOut ∧ t.sinkOut = s.sinkOut := by
  simp [blackout]

/-- The scroll renderer writes `FB` only (R144). -/
@[simp] theorem scrollRender_frame (range : Byte) (masked : Bool) (s : State) :
    let t := scrollRender range masked s
    t.params = s.params ∧ t.mode = s.mode ∧ t.blend = s.blend ∧ t.period = s.period ∧ t.offset = s.offset ∧ t.on = s.on ∧
    t.bright = s.bright ∧ t.curPal = s.curPal ∧ t.tgtPal = s.tgtPal ∧ t.heat = s.heat ∧ t.secCnt = s.secCnt ∧
    t.maskGate = s.maskGate ∧ t.tgtGate = s.tgtGate ∧ t.result = s.result ∧ t.errCmd = s.errCmd ∧ t.errMode = s.errMode ∧
    t.inputs = s.inputs ∧ t.logOut = s.logOut ∧ t.sinkOut = s.sinkOut := by
  simp [scrollRender]

/-- The heat renderer writes `FB` only (R178). -/
@[simp] theorem heatRender_frame (s : State) :
    let t := heatRender s
    t.params = s.params ∧ t.mode = s.mode ∧ t.blend = s.blend ∧ t.period = s.period ∧ t.offset = s.offset ∧ t.on = s.on ∧
    t.bright = s.bright ∧ t.curPal = s.curPal ∧ t.tgtPal = s.tgtPal ∧ t.heat = s.heat ∧ t.secCnt = s.secCnt ∧
    t.maskGate = s.maskGate ∧ t.tgtGate = s.tgtGate ∧ t.result = s.result ∧ t.errCmd = s.errCmd ∧ t.errMode = s.errMode ∧
    t.inputs = s.inputs ∧ t.rnd = s.rnd ∧ t.logOut = s.logOut ∧ t.sinkOut = s.sinkOut := by
  simp [heatRender]

/-- An admitted SETMODE keeps `ON`, `BRIGHT`, `RESULT`, the error flags, `FB` and the gates' timestamps (R125). -/
@[simp] theorem enterMode_frame (m : Mode) (s : State) :
    let t := enterMode m s
    t.params = s.params ∧ t.on = s.on ∧ t.bright = s.bright ∧ t.maskGate.last = s.maskGate.last ∧
    t.tgtGate.last = s.tgtGate.last ∧ t.result = s.result ∧ t.errCmd = s.errCmd ∧ t.errMode = s.errMode ∧ t.fb = s.fb ∧
    t.inputs = s.inputs ∧ t.sinkOut = s.sinkOut := by
  simp [enterMode]

/-- RUN in `SCROLL` writes `OFFSET`, `SEC_CNT`, the mask gate and `FB` only (R143). -/
@[simp] theorem runScroll_frame (cfg : ModeConfig) (now : BitVec 32) (s : State) :
    let t := runScroll cfg now s
    t.params = s.params ∧ t.mode = s.mode ∧ t.blend = s.blend ∧ t.period = s.period ∧ t.on = s.on ∧ t.bright = s.bright ∧
    t.curPal = s.curPal ∧ t.tgtPal = s.tgtPal ∧ t.heat = s.heat ∧ t.tgtGate = s.tgtGate ∧ t.result = s.result ∧
    t.errCmd = s.errCmd ∧ t.errMode = s.errMode ∧ t.inputs = s.inputs ∧ t.logOut = s.logOut ∧ t.sinkOut = s.sinkOut := by
  unfold runScroll; split <;> simp

/-- Without the mask, RUN in `SCROLL` keeps `SEC_CNT` and the mask gate too (R143). -/
theorem runScroll_unmasked_frame {cfg : ModeConfig} (unmasked : cfg.masked = false) (now : BitVec 32) (s : State) :
    (runScroll cfg now s).secCnt = s.secCnt ∧ (runScroll cfg now s).maskGate = s.maskGate := by
  simp [runScroll, unmasked]

/-- RUN in `CROSSFADE` writes `OFFSET`, the palettes, the target gate, the palette channel and `FB` only (R160). -/
@[simp] theorem runCrossfade_frame (cfg : ModeConfig) (now : BitVec 32) (s : State) :
    let t := runCrossfade cfg now s
    t.params = s.params ∧ t.mode = s.mode ∧ t.blend = s.blend ∧ t.period = s.period ∧ t.on = s.on ∧ t.bright = s.bright ∧
    t.heat = s.heat ∧ t.secCnt = s.secCnt ∧ t.maskGate = s.maskGate ∧ t.result = s.result ∧ t.errCmd = s.errCmd ∧
    t.errMode = s.errMode ∧ t.inputs = s.inputs ∧ t.logOut = s.logOut ∧ t.sinkOut = s.sinkOut := by
  simp [runCrossfade]

/-! Every frame written has an entry for each LED (R37, R62). -/

@[simp] theorem blackout_fb_length (s : State) : (blackout s).fb.length = s.cfg.numLeds := by simp [blackout]

@[simp] theorem scrollRender_fb_length (range : Byte) (masked : Bool) (s : State) :
    (scrollRender range masked s).fb.length = s.cfg.numLeds := by simp [scrollRender]

@[simp] theorem heatRender_fb_length (s : State) : (heatRender s).fb.length = s.cfg.numLeds := by simp [heatRender]

@[simp] theorem runScroll_fb_length (cfg : ModeConfig) (now : BitVec 32) (s : State) :
    (runScroll cfg now s).fb.length = s.cfg.numLeds := by
  unfold runScroll; split <;> simp

@[simp] theorem runCrossfade_fb_length (cfg : ModeConfig) (now : BitVec 32) (s : State) :
    (runCrossfade cfg now s).fb.length = s.cfg.numLeds := by
  simp [runCrossfade, State.cfg]

end Sys2Proof.Machine
end

section
/-! SUPPORT. The status register and the status port (O46). -/

namespace Sys2Proof.Machine

/-- The bits of `STATUS` (R36). -/
theorem status_getLsbD (s : State) :
    s.status.getLsbD 0 = s.on ∧ s.status.getLsbD 1 = s.blend.toBit.getLsbD 0 ∧ s.status.getLsbD 2 = s.errCmd ∧
    s.status.getLsbD 3 = s.errMode := by
  simp only [State.status, BitVec.getLsbD_append]
  simp

/-- Bits 7 to 4 of `STATUS` read as 0, and there is no bit above them (R36). -/
theorem status_getLsbD_of_ge (s : State) {j : Nat} (hj : 4 ≤ j) : s.status.getLsbD j = false := by
  simp only [State.status, BitVec.getLsbD_append]
  simp [show ¬ j < 1 by omega, show ¬ j - 1 < 1 by omega, show ¬ j - 1 - 1 < 1 by omega, show ¬ j - 1 - 1 - 1 < 1 by omega]

theorem Blend.toBit_getLsbD_zero (b : Blend) : b.toBit.getLsbD 0 = true ↔ b = .linear := by
  cases b <;> decide

/-- Settles O46: `STATUS` bit by bit, and the port's outputs as they are driven. -/
theorem statusShowsTheFlags : Obligations.StatusShowsTheFlags := by
  intro s
  obtain ⟨hOn, hBlend, hCmd, hMode⟩ := status_getLsbD s
  exact ⟨hOn, hBlend ▸ Blend.toBit_getLsbD_zero s.blend, hCmd, hMode, fun _ => status_getLsbD_of_ge s, rfl, rfl, rfl, rfl, rfl⟩

end Sys2Proof.Machine
end

section
/-! SUPPORT. The writer table, element by element (O49), and the error flags through a step (O48). -/

namespace Sys2Proof.Machine

open Sys2Proof.Spec

/-- The command is a SETMODE that names an admitted mode (R125). -/
def AdmittedSetmode (i : Instr) : Prop := ∃ m : Byte, i = .setmode m ∧ m.toNat ≤ 8

/-- The command is a RUN that the strategy `g` renders in `s` (R140). -/
def RunIn (s : State) (i : Instr) (g : Strategy) : Prop := ∃ now, i = .run now ∧ runsBy s g

theorem Mode.code_toNat_le (m : Mode) : m.code.toNat ≤ 8 := by cases m <;> decide

theorem admittedSetmode_code (m : Mode) : AdmittedSetmode (.setmode m.code) := ⟨m.code, rfl, Mode.code_toNat_le m⟩

section
variable {s t : State} {i : Instr}

theorem setmode_of_mode_or_period_ne (e : CommandEffect s i t) (h : t.mode ≠ s.mode ∨ t.period ≠ s.period) :
    AdmittedSetmode i := by
  cases e with
  | enterMode m => exact admittedSetmode_code m
  | _ => simp at h

theorem setmode_or_setblend_of_blend_ne (e : CommandEffect s i t) (h : t.blend ≠ s.blend) :
    AdmittedSetmode i ∨ ∃ b, i = .setblend b := by
  cases e with
  | enterMode m => exact .inl (admittedSetmode_code m)
  | setblend b => exact .inr ⟨b, rfl⟩
  | _ => simp at h

theorem setmode_or_run_of_offset_ne (e : CommandEffect s i t) (h : t.offset ≠ s.offset) :
    AdmittedSetmode i ∨ RunIn s i .scroll ∨ RunIn s i .crossfade := by
  cases e with
  | enterMode m => exact .inl (admittedSetmode_code m)
  | runScroll now running => exact .inr (.inl ⟨now, rfl, running⟩)
  | runCrossfade now running => exact .inr (.inr ⟨now, rfl, running⟩)
  | _ => simp at h

theorem setmode_or_crossfade_of_palettes_ne (e : CommandEffect s i t) (h : t.curPal ≠ s.curPal ∨ t.tgtPal ≠ s.tgtPal) :
    AdmittedSetmode i ∨ RunIn s i .crossfade := by
  cases e with
  | enterMode m => exact .inl (admittedSetmode_code m)
  | runCrossfade now running => exact .inr ⟨now, rfl, running⟩
  | _ => simp at h

theorem setmode_or_fire_of_heat_ne (e : CommandEffect s i t) (h : t.heat ≠ s.heat) :
    AdmittedSetmode i ∨ RunIn s i .fire := by
  cases e with
  | enterMode m => exact .inl (admittedSetmode_code m)
  | runFire now running heat rnd drawn => exact .inr ⟨now, rfl, running⟩
  | _ => simp at h

theorem setmode_or_masked_of_mask_ne (e : CommandEffect s i t) (h : t.secCnt ≠ s.secCnt ∨ t.maskGate ≠ s.maskGate) :
    AdmittedSetmode i ∨ (RunIn s i .scroll ∧ s.modeCfg.masked = true) := by
  cases e with
  | enterMode m => exact .inl (admittedSetmode_code m)
  | runScroll now running =>
    have hmasked : s.modeCfg.masked = true := by
      by_contra hm
      simp [runScroll_unmasked_frame (Bool.eq_false_of_not_eq_true hm)] at h
    exact .inr ⟨⟨now, rfl, running⟩, hmasked⟩
  | _ => simp at h

theorem scroll_of_maskLast_ne (e : CommandEffect s i t) (h : t.maskGate.last ≠ s.maskGate.last) : RunIn s i .scroll := by
  cases e with
  | runScroll now running => exact ⟨now, rfl, running⟩
  | _ => simp at h

theorem setmode_or_crossfade_of_tgtGate_ne (e : CommandEffect s i t) (h : t.tgtGate ≠ s.tgtGate) :
    AdmittedSetmode i ∨ RunIn s i .crossfade := by
  cases e with
  | enterMode m => exact .inl (admittedSetmode_code m)
  | runCrossfade now running => exact .inr ⟨now, rfl, running⟩
  | _ => simp at h

theorem crossfade_of_tgtLast_ne (e : CommandEffect s i t) (h : t.tgtGate.last ≠ s.tgtGate.last) :
    RunIn s i .crossfade := by
  cases e with
  | runCrossfade now running => exact ⟨now, rfl, running⟩
  | _ => simp at h

theorem off_or_on_of_on_ne (e : CommandEffect s i t) (h : t.on ≠ s.on) : i = .off ∨ i = .on := by
  cases e with
  | off => exact .inl rfl
  | on => exact .inr rfl
  | _ => simp at h

theorem setbright_of_bright_ne (e : CommandEffect s i t) (h : t.bright ≠ s.bright) : ∃ l, i = .setbright l := by
  cases e with
  | setbright l => exact ⟨l, rfl⟩
  | _ => simp at h

theorem sample_of_result_ne (e : CommandEffect s i t) (h : t.result ≠ s.result) : ∃ x, i = .sample x := by
  cases e with
  | sample x => exact ⟨x, rfl⟩
  | _ => simp at h

/-- No command that decodes sets `ERR_CMD` (R39, R192). -/
theorem errCmd_kept (e : CommandEffect s i t) : t.errCmd = s.errCmd := by
  cases e <;> simp

/-- A command keeps `ERR_MODE`, or it is a SETMODE above 8 and sets it (R193). -/
theorem errMode_kept_or_set (e : CommandEffect s i t) :
    t.errMode = s.errMode ∨ (t.errMode = true ∧ ∃ m : Byte, i = .setmode m ∧ 8 < m.toNat) := by
  cases e with
  | invalidMode code reserved => exact .inr ⟨rfl, code, rfl, (Mode.ofCode_eq_none code).mp reserved⟩
  | _ => exact .inl (by simp)

theorem run_or_off_of_fb_ne (e : CommandEffect s i t) (h : t.fb ≠ s.fb) : (∃ now, i = .run now) ∨ i = .off := by
  cases e with
  | runOff now | runScroll now | runCrossfade now | runFire now => exact .inl ⟨now, rfl⟩
  | off => exact .inr rfl
  | _ => simp at h

/-- RUN and OFF leave an entry of `FB` for each LED (R62). -/
theorem fb_length_of_run_or_off (e : CommandEffect s i t) (h : (∃ now, i = .run now) ∨ i = .off) :
    t.fb.length = s.cfg.numLeds := by
  cases e with
  | runOff | runScroll | runCrossfade | runFire | off => simp [State.cfg]
  | _ => simp at h

/-- The queue of inputs and the record of sink reads are moved by steps, never by a command (R41, R44). -/
theorem inputs_and_sinkOut_kept (e : CommandEffect s i t) : t.inputs = s.inputs ∧ t.sinkOut = s.sinkOut := by
  cases e <;> simp

end

/-- Settles O49: by the inversion of `exec`, each element changes only in the effects the table lists for it. -/
theorem writerTable : Obligations.WriterTable := by
  intro s t i h
  have e := commandEffect_of_exec h
  exact ⟨setmode_of_mode_or_period_ne e, setmode_or_setblend_of_blend_ne e, setmode_or_run_of_offset_ne e,
    setmode_or_crossfade_of_palettes_ne e, setmode_or_fire_of_heat_ne e, setmode_or_masked_of_mask_ne e,
    scroll_of_maskLast_ne e, setmode_or_crossfade_of_tgtGate_ne e, crossfade_of_tgtLast_ne e, off_or_on_of_on_ne e,
    setbright_of_bright_ne e, sample_of_result_ne e, errCmd_kept e, fun hne => ((errMode_kept_or_set e).resolve_left hne).2,
    run_or_off_of_fb_ne e, fb_length_of_run_or_off e, inputs_and_sinkOut_kept e⟩

/-- Settles O48: a step waits, runs a command, rejects a word, resets or serves the sink, and only a reset clears a flag. -/
theorem errorFlagsAreSticky : Obligations.ErrorFlagsAreSticky := by
  intro s t h noReset
  obtain ⟨-, rfl⟩ | ⟨w, rest, i, -, -, hexec⟩ | ⟨w, rest, -, -, rfl⟩ | ⟨rest, hreset, -⟩ | ⟨addr, rest, -, rfl⟩ :=
    step_cases h
  · exact ⟨id, id⟩
  · have e := commandEffect_of_exec hexec
    refine ⟨(errCmd_kept e).trans, fun hset => ?_⟩
    obtain hkept | ⟨hraised, -⟩ := errMode_kept_or_set e
    · exact hkept.trans hset
    · exact hraised
  · exact ⟨fun _ => rfl, id⟩
  · exact absurd hreset (noReset rest)
  · exact ⟨id, id⟩

end Sys2Proof.Machine
end

section
/-! SUPPORT. What a reset gives each element (O53). -/

namespace Sys2Proof.Machine

/-- Reset keeps the parameters and the agents around the block; the palette channel is in `applyReset_palettes` (R210). -/
@[simp] theorem applyReset_frame (s : State) :
    let t := applyReset s
    t.params = s.params ∧ t.inputs = s.inputs ∧ t.rnd = s.rnd ∧ t.logOut = s.logOut ∧ t.sinkOut = s.sinkOut :=
  ⟨rfl, rfl, rfl, rfl, rfl⟩

/-- The reset column of R47, but for the palettes. -/
@[simp] theorem applyReset_elements (s : State) :
    let t := applyReset s
    let p := s.cfg
    t.mode = p.defaultMode ∧ t.period = (p.modeTable.config p.defaultMode).period ∧ t.blend = .linear ∧ t.offset = 0 ∧
    t.heat = List.replicate p.cellCount 0 ∧ t.secCnt = 0 ∧ t.maskGate = { last := 0, armed := false } ∧
    t.tgtGate = { last := 0, armed := false } ∧ t.on = true ∧ t.bright = 255 ∧ t.result = Rgb.black ∧ t.errCmd = false ∧
    t.errMode = false ∧ t.fb = List.replicate p.numLeds Rgb.black :=
  ⟨rfl, rfl, rfl, rfl, rfl, rfl, rfl, rfl, rfl, rfl, rfl, rfl, rfl, rfl⟩

/-- The palettes and the palette channel after reset are those of `Resolve` for the default mode (R211). -/
theorem applyReset_palettes (s : State) :
    ((applyReset s).curPal, (applyReset s).tgtPal, (applyReset s).pal) =
      resolve s.cfg.catalog (s.cfg.modeTable.config s.cfg.defaultMode).palette s.pal := rfl

/-- A default mode with a catalog palette: both palettes are that one and no draw is made (R211). -/
theorem applyReset_palettes_catalog {s : State} {id : PaletteId}
    (h : (s.cfg.modeTable.config s.cfg.defaultMode).palette = .catalog id) :
    (applyReset s).curPal = s.cfg.catalog.palette id ∧ (applyReset s).tgtPal = s.cfg.catalog.palette id ∧
    (applyReset s).pal = s.pal := by
  have hp := applyReset_palettes s
  rwa [h, resolve_catalog, Prod.mk.injEq, Prod.mk.injEq] at hp

/-- A default mode with a random pair: two palette draws (R211). -/
theorem applyReset_pal_requests_randomPair {s : State}
    (h : (s.cfg.modeTable.config s.cfg.defaultMode).palette = .randomPair) :
    (applyReset s).pal.requests = s.pal.requests + 2 := by
  have hp := applyReset_palettes s
  rw [h, resolve_randomPair, Prod.mk.injEq, Prod.mk.injEq] at hp
  obtain ⟨-, -, hpal⟩ := hp
  simp [hpal]

/-- Settles O53: the step is `applyReset` on the state without the input, element by element. -/
theorem resetGivesEveryElementItsValue : Obligations.ResetGivesEveryElementItsValue := by
  intro s rest hin
  obtain ⟨hparams, hinputs, hrnd, hlog, -⟩ := applyReset_frame { s with inputs := rest }
  obtain ⟨hmode, hperiod, hblend, hoffset, hheat, hsec, hmask, htgt, hon, hbright, hresult, hcmd, herr, hfb⟩ :=
    applyReset_elements { s with inputs := rest }
  exact ⟨_, step_cons hin, hmode, hperiod, hblend, hoffset, applyReset_palettes { s with inputs := rest },
    fun id => applyReset_palettes_catalog (s := { s with inputs := rest }),
    applyReset_pal_requests_randomPair (s := { s with inputs := rest }), hheat, hsec, hmask, htgt, hon, hbright, hresult,
    hcmd, herr, hfb, hlog, hparams, hinputs, hrnd⟩

end Sys2Proof.Machine
end

section
/-! SUPPORT. Reading an entry of `FB` after a write, and the loop of single writes (O44). -/

namespace Sys2Proof.Machine

/-- An entry in range reads as the value written to it (R61, R62). -/
@[simp] theorem memRead_memWrite_same {s : State} {i : Nat} (v : Rgb) (h : i < s.fb.length) :
    memRead (memWrite i v s) i = some v :=
  List.getElem?_set_self h

/-- A write to one entry leaves every other (R62). -/
@[simp] theorem memRead_memWrite_ne {i j : Nat} (s : State) (v : Rgb) (h : i ≠ j) :
    memRead (memWrite i v s) j = memRead s j :=
  List.getElem?_set_ne h

/-- The entry after the first `n` is the one that step `n` of the loop replaces. -/
theorem memWrite_after_prefix {s : State} {n : Nat} (pixel : Nat → Rgb) (h : n < s.fb.length) :
    memWrite n (pixel n) { s with fb := (List.range n).map pixel ++ s.fb.drop n } =
      { s with fb := (List.range (n + 1)).map pixel ++ s.fb.drop (n + 1) } := by
  have hset : (s.fb.drop n).set 0 (pixel n) = pixel n :: s.fb.drop (n + 1) := by
    rw [List.drop_eq_getElem_cons h, List.set_cons_zero]
  simp [memWrite, List.range_succ, hset]

/-- The loop's invariant: after `n` writes the first `n` entries are the pixels and the others are as before. -/
theorem foldl_memWrite_range (pixel : Nat → Rgb) (s : State) (n : Nat) (h : n ≤ s.fb.length) :
    (List.range n).foldl (fun t i => memWrite i (pixel i) t) s =
      { s with fb := (List.range n).map pixel ++ s.fb.drop n } := by
  induction n with
  | zero => rfl
  | succ n ih =>
    rw [List.range_succ, List.foldl_concat, ih (Nat.le_of_succ_le h), memWrite_after_prefix pixel h, List.range_succ]

/-- With an entry for each LED the loop leaves nothing of the old frame (R62, log entry 11). -/
theorem writeFrameLoop_eq_writeFrame {s : State} (pixel : Nat → Rgb) (h : s.fb.length = s.cfg.numLeds) :
    writeFrameLoop pixel s = writeFrame pixel s := by
  have hnone : s.fb.drop s.cfg.numLeds = [] := List.drop_eq_nil_of_le h.le
  rw [writeFrameLoop, foldl_memWrite_range pixel s _ h.ge, hnone, List.append_nil, writeFrame]

/-- Settles O44: the two reads after a write, and the loop by its invariant at `NumLeds`. -/
theorem frameBufferReadsWhatWasWritten : Obligations.FrameBufferReadsWhatWasWritten :=
  ⟨fun _ _ v h => memRead_memWrite_same v h, fun s _ _ v h => memRead_memWrite_ne s v h,
    fun _ f h => writeFrameLoop_eq_writeFrame f h⟩

end Sys2Proof.Machine
end

section
/-! SUPPORT. The decoder and the encoder are inverse (O1), and words written out (O4). -/

namespace Sys2Proof

/-- The bits that a format keeps at 0 are 0 in the operand field of a command (R82). -/
theorem zerosHold_arg (i : Instr) : i.opcode.format.zerosHold i.arg = true := by
  have hM (b : Byte) : BitVec.extractLsb' 8 24 (0#24 ++ b) = 0 := BitVec.extractLsb'_append_eq_left
  have hF (b : BitVec 1) : BitVec.extractLsb' 1 31 (0#31 ++ b) = 0 := BitVec.extractLsb'_append_eq_left
  cases i with
  | nop | off | on | run => rfl
  | setmode b | setbright b | sample b => exact beq_iff_eq.mpr (hM b)
  | setblend b => exact beq_iff_eq.mpr (hF b)

/-- Assembling the operand field of a command gives the command back (R83). -/
theorem assemble_arg (i : Instr) : i.opcode.assemble i.arg = i := by
  cases i with
  | nop | off | on | run => rfl
  | setmode => exact congrArg Instr.setmode BitVec.extractLsb'_append_eq_right
  | setbright => exact congrArg Instr.setbright BitVec.extractLsb'_append_eq_right
  | setblend => exact congrArg Instr.setblend BitVec.extractLsb'_append_eq_right
  | sample => exact congrArg Instr.sample BitVec.extractLsb'_append_eq_right

@[simp] theorem opcode_assemble (o : Opcode) (arg : BitVec 32) : (o.assemble arg).opcode = o := by
  cases o <;> rfl

/-- A field whose upper bits are 0 is its lower bits behind zeros. -/
theorem zeros_append_low {n len : Nat} {x : BitVec (n + len)} (h : (x.extractLsb' len n == 0) = true) :
    0#n ++ x.extractLsb' 0 len = x := by
  have h0 : x.extractLsb' len n = 0#n := beq_iff_eq.mp h
  rw [← h0, BitVec.extractLsb'_append_extractLsb']

/-- Where its must-be-zero bits are 0, assembling an operand field loses no bit of it (R82, R83). -/
theorem arg_assemble {o : Opcode} {arg : BitVec 32} (h : o.format.zerosHold arg = true) : (o.assemble arg).arg = arg := by
  cases o with
  | nop | off | on => exact (beq_iff_eq.mp h).symm
  | run => rfl
  | setmode | setbright | sample => exact zeros_append_low (n := 24) (len := 8) h
  | setblend => exact zeros_append_low (n := 31) (len := 1) h

/-- `decode` on the two fields of an accepted word (R87). -/
theorem decode_of_zerosHold {w : CommandWord} {o : Opcode} (ho : opField w = o.toByte)
    (hz : o.format.zerosHold (argField w) = true) : decode w = .ok (o.assemble (argField w)) := by
  simp [decode, ho, hz]

@[simp] theorem decode_encode (i : Instr) : decode (encode i) = .ok i := by
  have hz : i.opcode.format.zerosHold (argField (encode i)) = true := by
    rw [argField_encode]
    exact zerosHold_arg i
  rw [decode_of_zerosHold (opField_encode i) hz, argField_encode, assemble_arg]

/-- A word that decodes is the word of its command. -/
theorem eq_encode_of_decode {w : CommandWord} {i : Instr} (h : decode w = .ok i) : w = encode i := by
  obtain ⟨-, he⟩ | ⟨o, -, -, he⟩ | ⟨o, ho, hz, hok⟩ := decode_cases w
  · cases he.symm.trans h
  · cases he.symm.trans h
  · cases hok.symm.trans h
    rw [encode, opcode_assemble, arg_assemble hz, ← ho, word_eq_fields]

/-- Settles O1: the fields of `encode i` pass the checks and assemble to `i`; an accepted word is its two fields. -/
theorem decodeIsInverseOfEncode : Obligations.DecodeIsInverseOfEncode := by
  intro w i
  constructor
  · exact eq_encode_of_decode
  · rintro rfl
    exact decode_encode i

/-- Settles O4: each word is the one that `encode` gives for the command it stands for. -/
theorem writtenOutWordsDecode : Obligations.WrittenOutWordsDecode :=
  ⟨decode_encode .nop, decode_encode (.setmode 3), decode_encode (.run 1000), decode_encode .off, decode_encode .on,
    decode_encode (.setbright 128), decode_encode (.setblend 0), decode_encode (.sample 29)⟩

end Sys2Proof
end

section
/-! SUPPORT. The words that spell no command (R84, R85), and the rows of match and mask (R88), in terms of the decoder. -/

namespace Sys2Proof

open Sys2Proof.Spec

/-! The bits that must be 0, read one by one (R82). -/

theorem extractLsb'_eq_zero_iff {arg : BitVec 32} {n len : Nat} (hn : n + len = 32) :
    arg.extractLsb' n len = 0 ↔ ∀ j, n ≤ j ∧ j < 32 → arg.getLsbD j = false := by
  constructor
  · rintro h j ⟨hj, hlt⟩
    have hbit := congrArg (·.getLsbD (j - n)) h
    simpa [BitVec.getLsbD_extractLsb', show j - n < len by omega, Nat.add_sub_cancel' hj] using hbit
  · intro h
    apply BitVec.eq_of_getLsbD_eq
    intro j hj
    simp [BitVec.getLsbD_extractLsb', h (n + j) ⟨by omega, by omega⟩]

theorem zerosHold_iff (f : Format) (arg : BitVec 32) :
    f.zerosHold arg = true ↔ ∀ j, mustBeZeroBit f j → arg.getLsbD j = false := by
  cases f with
  | Z =>
    have h := extractLsb'_eq_zero_iff (arg := arg) (n := 0) (len := 32) rfl
    simpa [Format.zerosHold, mustBeZeroBit] using h
  | M | B => exact beq_iff_eq.trans (extractLsb'_eq_zero_iff (n := 8) rfl)
  | F => exact beq_iff_eq.trans (extractLsb'_eq_zero_iff (n := 1) rfl)
  | T => simp [Format.zerosHold, mustBeZeroBit]

theorem zerosHold_eq_false_iff (f : Format) (arg : BitVec 32) :
    f.zerosHold arg = false ↔ ∃ j, mustBeZeroBit f j ∧ arg.getLsbD j = true := by
  rw [← Bool.not_eq_true, zerosHold_iff]
  simp

theorem Opcode.toByte_toNat_lt (o : Opcode) : o.toByte.toNat < 8 := by cases o <;> decide

theorem Opcode.toByte_injective : Function.Injective Opcode.toByte := by
  intro o o' h
  exact Option.some.inj (by rw [← Opcode.ofByte_toByte, h, Opcode.ofByte_toByte])

/-- A word with the byte of `o` spells a command exactly if the bits that the format of `o` keeps at 0 are 0 (R84, R85). -/
theorem not_spellsNoCommand_iff_of_opField {w : CommandWord} {o : Opcode} (ho : opField w = o.toByte) :
    ¬ spellsNoCommand w ↔ o.format.zerosHold (argField w) = true := by
  rw [← Bool.not_eq_false, not_iff_not, zerosHold_eq_false_iff]
  constructor
  · rintro (hlarge | ⟨o', ho', hbit⟩)
    · rw [ho] at hlarge
      exact absurd o.toByte_toNat_lt (Nat.not_lt.mpr hlarge)
    · obtain rfl := Opcode.toByte_injective (ho.symm.trans ho')
      exact hbit
  · exact fun hbit => .inr ⟨o, ho, hbit⟩

/-- The words that R84 and R85 name are those that the decoder rejects. -/
theorem spellsNoCommand_iff (w : CommandWord) : spellsNoCommand w ↔ ∃ e, decode w = .error e := by
  obtain ⟨hn, hd⟩ | ⟨o, ho, hz, hd⟩ | ⟨o, ho, hz, hd⟩ := decode_cases w
  · exact iff_of_true (.inl ((Opcode.ofByte_eq_none _).mp hn)) ⟨_, hd⟩
  · exact iff_of_true (.inr ⟨o, ho, (zerosHold_eq_false_iff _ _).mp hz⟩) ⟨_, hd⟩
  · refine iff_of_false ((not_spellsNoCommand_iff_of_opField ho).mpr hz) ?_
    rintro ⟨e, he⟩
    cases hd.symm.trans he

/-- The words that R84 and R85 do not name are the words of commands. -/
theorem not_spellsNoCommand_iff (w : CommandWord) : ¬ spellsNoCommand w ↔ ∃ i, decode w = .ok i := by
  rw [spellsNoCommand_iff]
  cases decode w <;> simp

/-! The rows of match and mask (R88). -/

/-- The bits of `arg` that the format says must be 0, as a mask. -/
def Format.zeroMask : Format → BitVec 32
  | .Z => 0xFFFFFFFF
  | .M => 0xFFFFFF00
  | .B => 0xFFFFFF00
  | .F => 0xFFFFFFFE
  | .T => 0

/-- A row's mask keeps all of `op` and the must-be-zero bits of `arg`. -/
theorem maskWord_eq_append (o : Opcode) : o.maskWord = 0xFF#8 ++ o.format.zeroMask := by cases o <;> rfl

/-- A row's match is the opcode's byte with all of `arg` 0. -/
theorem matchWord_eq_append (o : Opcode) : o.matchWord = o.toByte ++ 0#32 := by cases o <;> rfl

/-- The mask has exactly the must-be-zero bits of the format (R82). -/
theorem Format.zeroMask_getLsbD (f : Format) (j : Nat) : f.zeroMask.getLsbD j = true ↔ mustBeZeroBit f j := by
  by_cases hj : j < 32
  · revert j
    cases f <;> simp only [mustBeZeroBit] <;> decide
  · rw [BitVec.getLsbD_of_ge _ _ (Nat.not_lt.mp hj)]
    cases f <;> simp [mustBeZeroBit, hj]

theorem and_zeroMask_eq_zero_iff (f : Format) (arg : BitVec 32) : arg &&& f.zeroMask = 0 ↔ f.zerosHold arg = true := by
  rw [zerosHold_iff]
  constructor
  · intro h j hj
    simpa [(f.zeroMask_getLsbD j).mpr hj] using congrArg (·.getLsbD j) h
  · intro h
    apply BitVec.eq_of_getLsbD_eq
    intro j _
    cases hbit : f.zeroMask.getLsbD j
    · simp [hbit]
    · simp [h j ((f.zeroMask_getLsbD j).mp hbit)]

theorem append_fields_inj {op op' : Byte} {arg arg' : BitVec 32} :
    op ++ arg = op' ++ arg' ↔ op = op' ∧ arg = arg' := by
  constructor
  · intro h
    exact ⟨by simpa using congrArg opField h, by simpa using congrArg argField h⟩
  · rintro ⟨rfl, rfl⟩
    rfl

/-- A row matches the words with its byte whose must-be-zero bits are 0. -/
theorem matches_iff (o : Opcode) (w : CommandWord) :
    o.matches w = true ↔ opField w = o.toByte ∧ o.format.zerosHold (argField w) = true := by
  calc o.matches w = true
      ↔ w &&& o.maskWord = o.matchWord := beq_iff_eq
    _ ↔ (opField w &&& 0xFF#8) ++ (argField w &&& o.format.zeroMask) = o.toByte ++ 0#32 := by
        rw [← BitVec.and_append, word_eq_fields, maskWord_eq_append, matchWord_eq_append]
    _ ↔ opField w = o.toByte ∧ argField w &&& o.format.zeroMask = 0 := by
        rw [append_fields_inj, show 0xFF#8 = BitVec.allOnes 8 from rfl, BitVec.and_allOnes, BitVec.ofNat_eq_ofNat]
    _ ↔ opField w = o.toByte ∧ o.format.zerosHold (argField w) = true := by rw [and_zeroMask_eq_zero_iff]

/-- A row matches exactly the words of its commands. -/
theorem matches_iff_decode (o : Opcode) (w : CommandWord) : o.matches w = true ↔ ∃ i, decode w = .ok i ∧ i.opcode = o := by
  rw [matches_iff]
  constructor
  · rintro ⟨ho, hz⟩
    exact ⟨_, decode_of_zerosHold ho hz, opcode_assemble o _⟩
  · rintro ⟨i, hd, rfl⟩
    rw [eq_encode_of_decode hd, opField_encode, argField_encode]
    exact ⟨rfl, zerosHold_arg i⟩

theorem spellsNoCommand_of_no_match {w : CommandWord} (h : ∀ o : Opcode, o.matches w = false) : spellsNoCommand w := by
  by_contra hspells
  obtain ⟨i, hd⟩ := (not_spellsNoCommand_iff w).mp hspells
  have hmatch : i.opcode.matches w = true := (matches_iff_decode _ w).mpr ⟨i, hd, rfl⟩
  rw [h] at hmatch
  cases hmatch

end Sys2Proof
end

section
/-! SUPPORT. What a step does with a word presented next (O2, O3). -/

namespace Sys2Proof.Machine

open Sys2Proof.Spec

/-- A word that decodes is executed as its command (R14, R41). -/
theorem step_of_decode_ok {s : State} {w : CommandWord} {i : Instr} {rest : List Input}
    (hin : s.inputs = .command w :: rest) (hd : decode w = .ok i) : step s = exec i { s with inputs := rest } := by
  rw [step_cons hin, runInput, runWord_ok hd]

/-- A word that the decoder rejects raises `BadCommand` (R84, R85). -/
theorem raisesBadCommand_of_decode_error {w : CommandWord} {e : Reject} (hd : decode w = .error e) : raisesBadCommand w := by
  intro s rest hin
  rw [step_cons hin, runInput, runWord_error hd]

theorem raisesBadCommand_of_spellsNoCommand {w : CommandWord} (h : spellsNoCommand w) : raisesBadCommand w := by
  obtain ⟨e, hd⟩ := (spellsNoCommand_iff w).mp h
  exact raisesBadCommand_of_decode_error hd

/-- SETMODE above 8 raises `InvalidMode` (R86, R125). -/
theorem exec_setmode_reserved {m : Byte} (h : 8 < m.toNat) (s : State) :
    exec (.setmode m) s = .next { s with errMode := true } := by
  have hnone : Mode.ofCode m = none := (Mode.ofCode_eq_none m).mpr h
  obtain ⟨md, hsome, -⟩ | ⟨-, hexec⟩ := execSetmode_cases m s
  · cases hnone.symm.trans hsome
  · exact hexec

/-- The operand of SETMODE is the low byte of its word (R83). -/
theorem extractLsb'_encode_setmode (m : Byte) : (encode (.setmode m)).extractLsb' 0 8 = m := by
  have harg (w : CommandWord) : w.extractLsb' 0 8 = (argField w).extractLsb' 0 8 := by simp [argField]
  rw [harg, argField_encode]
  exact BitVec.extractLsb'_append_eq_right

theorem eq_setmode_of_opcode {i : Instr} (h : i.opcode = .setmode) : ∃ m, i = .setmode m := by
  cases i with
  | setmode m => exact ⟨m, rfl⟩
  | _ => cases h

/-- A word of SETMODE that decodes and has a mode above 8, presented next, sets `ERR_MODE` and changes nothing else (R86). -/
theorem step_of_setmode_word_reserved {s : State} {w : CommandWord} {i : Instr} {rest : List Input}
    (hin : s.inputs = .command w :: rest) (hd : decode w = .ok i) (hi : i.opcode = .setmode)
    (hm : 8 < (w.extractLsb' 0 8).toNat) : step s = .next { s with inputs := rest, errMode := true } := by
  obtain ⟨m, rfl⟩ := eq_setmode_of_opcode hi
  rw [eq_encode_of_decode hd, extractLsb'_encode_setmode] at hm
  rw [step_of_decode_ok hin hd, exec_setmode_reserved hm]

/-- Only SETMODE above 8 is ill formed (R86). -/
theorem wellFormed_of_not_reserved {i : Instr} (h : ∀ m, i = .setmode m → m.toNat ≤ 8) : i.wellFormed = true := by
  cases i with
  | setmode m => exact decide_eq_true (h m rfl)
  | _ => rfl

/-- Settles O3: a word either is rejected or decodes, and what decodes is either SETMODE above 8 or well formed. -/
theorem everyWordIsOneCommandOrOneError : Obligations.EveryWordIsOneCommandOrOneError := by
  intro w
  refine ⟨raisesBadCommand_of_spellsNoCommand, fun hspells hop hm s rest hin => ?_, fun hspells hmode => ?_⟩
  · obtain ⟨i, hd⟩ := (not_spellsNoCommand_iff w).mp hspells
    have hi : i.opcode = .setmode := by
      rw [eq_encode_of_decode hd, opField_encode] at hop
      exact Opcode.toByte_injective hop
    exact step_of_setmode_word_reserved hin hd hi hm
  · obtain ⟨i, hd⟩ := (not_spellsNoCommand_iff w).mp hspells
    have hw := eq_encode_of_decode hd
    refine ⟨i, wellFormed_of_not_reserved ?_, hw, fun s rest hin => step_of_decode_ok hin hd⟩
    rintro m rfl
    by_contra hm
    refine hmode ⟨?_, ?_⟩
    · rw [hw, opField_encode]
      rfl
    · rw [hw, extractLsb'_encode_setmode]
      exact Nat.not_le.mp hm

/-- Settles O2: a row matches the words of its commands, so rows are disjoint and a word outside all rows is rejected. -/
theorem matchAndMaskNameTheCommand : Obligations.MatchAndMaskNameTheCommand := by
  refine ⟨rfl, fun o w => beq_iff_eq, matches_iff_decode, fun o o' w h h' => ?_,
    fun w h => raisesBadCommand_of_spellsNoCommand (spellsNoCommand_of_no_match h), fun w s rest h hm hin => ?_⟩
  · obtain ⟨i, hd, rfl⟩ := (matches_iff_decode o w).mp h
    obtain ⟨i', hd', rfl⟩ := (matches_iff_decode o' w).mp h'
    cases hd.symm.trans hd'
    rfl
  · obtain ⟨i, hd, hi⟩ := (matches_iff_decode .setmode w).mp h
    exact step_of_setmode_word_reserved hin hd hi hm

end Sys2Proof.Machine
end

section
/-! SUPPORT. Reading the mnemonic of a line, and the pseudo-instructions (O6). -/

namespace Sys2Proof.Machine

/-- Text without a semicolon in front of a line stays when the comment goes (R89). -/
theorem stripComment_append {text : List Char} (h : ';' ∉ text) (line : List Char) :
    stripComment (text ++ line) = text ++ stripComment line := by
  induction text with
  | nil => rfl
  | cons c cs ih =>
    obtain ⟨hc, hcs⟩ := List.ne_and_not_mem_of_not_mem_cons h
    simp [stripComment, Ne.symm hc, ih hcs]

/-- A word is read up to the space that ends it, behind what was read of it before (R89). -/
theorem splitWords_append_space {cur word : List Char} (hne : cur ≠ [] ∨ word ≠ []) (h : ' ' ∉ word) (line : List Char) :
    splitWords cur (word ++ ' ' :: line) = (cur.reverse ++ word) :: splitWords [] line := by
  induction word generalizing cur with
  | nil => simp [splitWords, hne.resolve_right (by simp)]
  | cons c cs ih =>
    obtain ⟨hc, hcs⟩ := List.ne_and_not_mem_of_not_mem_cons h
    simp [splitWords, Ne.symm hc, ih (.inl (List.cons_ne_nil c cur)) hcs]

/-- The text can stand as the mnemonic of a line: it is one word, outside a comment (R89). -/
abbrev IsMnemonic (text : List Char) : Prop := text ≠ [] ∧ ' ' ∉ text ∧ ';' ∉ text

/-- A line that starts with a mnemonic and a space has it as its first word (R89). -/
theorem words_of_mnemonic_line {m : List Char} (hm : IsMnemonic m) (x : List Char) :
    splitWords [] (stripComment (m ++ ' ' :: x)) = m :: splitWords [] (stripComment x) := by
  obtain ⟨hne, hspace, hsemicolon⟩ := hm
  have hx : stripComment (' ' :: x) = ' ' :: stripComment x := rfl
  rw [stripComment_append hsemicolon, hx, splitWords_append_space (.inr hne) hspace]
  rfl

/-- Two mnemonics that give the same command with each operand, and without one, give the same line with each operand text. -/
theorem assembleLine_eq_of_mnemonics {m m' : List Char} (hm : IsMnemonic m) (hm' : IsMnemonic m')
    (hbare : assembleBare m = assembleBare m') (hwith : ∀ operand, assembleWith m operand = assembleWith m' operand)
    (x : List Char) : assembleLine (m ++ ' ' :: x) = assembleLine (m' ++ ' ' :: x) := by
  simp only [assembleLine, words_of_mnemonic_line hm, words_of_mnemonic_line hm']
  cases splitWords [] (stripComment x) with
  | nil => simp only [hbare]
  | cons operand rest =>
    cases rest with
    | nil => simp only [hwith]
    | cons => rfl

/-- `TICK` takes the operand that RUN takes (R90). -/
theorem assembleWith_tick (operand : List Char) : assembleWith "TICK".toList operand = assembleWith "RUN".toList operand := by
  simp [assembleWith]

/-- Settles O6: `TICK` and RUN agree operand by operand; the names are read as their codes. -/
theorem pseudoInstructionsExpand : Obligations.PseudoInstructionsExpand := by
  refine ⟨fun x => ?_, by decide, by decide, by decide⟩
  exact assembleLine_eq_of_mnemonics (m := "TICK".toList) (m' := "RUN".toList) (by decide)
    (by decide) (by decide) assembleWith_tick x

end Sys2Proof.Machine
end

section
/-! SUPPORT. Operands too wide for their format (R85), SETBLEND and SAMPLE (O11, O12). -/

namespace Sys2Proof.Machine

open Sys2Proof.Spec

/-- A word whose upper bits are 0 is below the power of two of the lower ones. -/
theorem toNat_lt_of_extractLsb'_eq_zero {w n len : Nat} {x : BitVec w} (hw : w = n + len)
    (h : x.extractLsb' n len = 0) : x.toNat < 2 ^ n := by
  have hlt : x.toNat / 2 ^ n < 2 ^ len := Nat.div_lt_of_lt_mul (by rw [← Nat.pow_add, ← hw]; exact x.isLt)
  have hzero : x.toNat / 2 ^ n % 2 ^ len = 0 := by
    simpa [BitVec.extractLsb'_toNat, Nat.shiftRight_eq_div_pow] using congrArg BitVec.toNat h
  rw [Nat.mod_eq_of_lt hlt] at hzero
  exact Nat.lt_of_div_eq_zero (Nat.two_pow_pos n) hzero

/-- An operand field in which a must-be-zero bit is 1 raises `BadCommand` with its opcode's byte (R82, R85). -/
theorem raisesBadCommand_of_zerosHold_eq_false {o : Opcode} {arg : BitVec 32} (h : o.format.zerosHold arg = false) :
    raisesBadCommand (o.toByte ++ arg) := by
  refine raisesBadCommand_of_spellsNoCommand (.inr ⟨o, opField_append _ _, ?_⟩)
  rwa [argField_append, ← zerosHold_eq_false_iff]

theorem zerosHold_eq_false_of_byte_overflow {arg : BitVec 32} (h : 256 ≤ arg.toNat) :
    Format.M.zerosHold arg = false ∧ Format.B.zerosHold arg = false := by
  have hne : (arg.extractLsb' 8 24 == 0) = false :=
    beq_eq_false_iff_ne.mpr fun hz => absurd (toNat_lt_of_extractLsb'_eq_zero rfl hz) (Nat.not_lt.mpr h)
  exact ⟨hne, hne⟩

theorem zerosHold_eq_false_of_flag_overflow {arg : BitVec 32} (h : 2 ≤ arg.toNat) : Format.F.zerosHold arg = false :=
  beq_eq_false_iff_ne.mpr fun hz => absurd (toNat_lt_of_extractLsb'_eq_zero rfl hz) (Nat.not_lt.mpr h)

/-- SETMODE with a mode of at most 8 enters that mode (R125). -/
theorem exec_setmode_admitted {m : Byte} (h : m.toNat ≤ 8) (s : State) :
    ∃ md : Mode, md.code = m ∧ exec (.setmode m) s = .next (enterMode md s) := by
  obtain ⟨md, hsome, hexec⟩ | ⟨hnone, -⟩ := execSetmode_cases m s
  · exact ⟨md, Mode.code_of_ofCode hsome, hexec⟩
  · exact absurd ((Mode.ofCode_eq_none m).mp hnone) (Nat.not_lt.mpr h)

/-- A command that goes on hands its state to the commands after it (R70). -/
theorem execAll_cons {i : Instr} {s t : State} (h : exec i s = .next t) (rest : List Instr) :
    execAll (i :: rest) s = execAll rest t := by
  simp [execAll, h]

@[simp] theorem enterMode_blend (m : Mode) (s : State) : (enterMode m s).blend = .linear := rfl

/-- Settles O11: SETBLEND by its definition; an admitted SETMODE and reset each write `LINEAR`. -/
theorem setblendWritesTheFlag : Obligations.SetblendWritesTheFlag := by
  refine ⟨fun _ => rfl, fun _ => rfl, fun s b m hm => ?_, fun s rest hin => ?_, fun arg harg => ?_⟩
  · obtain ⟨md, -, hexec⟩ := exec_setmode_admitted hm { s with blend := blendOperand b }
    exact ⟨_, (execAll_cons rfl _).trans (execAll_cons hexec []), enterMode_blend md _⟩
  · exact ⟨_, step_cons hin, rfl⟩
  · exact raisesBadCommand_of_zerosHold_eq_false (o := .setblend) (zerosHold_eq_false_of_flag_overflow harg)

/-- Settles O12: SAMPLE by its definition, and the operands wider than a byte. -/
theorem sampleWritesResult : Obligations.SampleWritesResult :=
  ⟨fun _ _ => rfl, fun _ harg =>
    raisesBadCommand_of_zerosHold_eq_false (o := .sample) (zerosHold_eq_false_of_byte_overflow harg).2⟩

end Sys2Proof.Machine
end

section
/-! SUPPORT. One blended channel, as a function of its place `f` between the two stops (R102, R106). -/

namespace Sys2Proof.Machine

open Sys2Proof.Spec

/-- `f` sixteenths from `a` to `b` is the rest of the way from `b` to `a`. -/
theorem blendChannel_swap {f : Nat} (hf : f ≤ 16) (a b : Byte) : blendChannel (16 - f) b a = blendChannel f a b := by
  simp only [blendChannel, Nat.sub_sub_self hf, Nat.add_comm]

/-- A channel that does not fall: the lower stop and `f` sixteenths of the difference, rounded down. -/
theorem blendChannel_toNat_of_le {f : Nat} (hf : f ≤ 16) {a b : Byte} (h : a.toNat ≤ b.toNat) :
    (blendChannel f a b).toNat = a.toNat + (b.toNat - a.toNat) * f / 16 := by
  obtain ⟨d, hd⟩ := Nat.exists_eq_add_of_le h
  have hsum : a.toNat * (16 - f) + b.toNat * f = d * f + 16 * a.toNat := by
    calc a.toNat * (16 - f) + b.toNat * f = a.toNat * (16 - f + f) + d * f := by rw [hd]; ring
      _ = d * f + 16 * a.toNat := by rw [Nat.sub_add_cancel hf]; ring
  rw [blendChannel_toNat f a b hf, hsum, Nat.add_mul_div_left _ _ (by omega), hd, Nat.add_sub_cancel_left, Nat.add_comm]

/-- A channel that does not rise: the same, seen from the next stop. -/
theorem blendChannel_toNat_of_ge {f : Nat} (hf : f ≤ 16) {a b : Byte} (h : b.toNat ≤ a.toNat) :
    (blendChannel f a b).toNat = b.toNat + (a.toNat - b.toNat) * (16 - f) / 16 := by
  rw [← blendChannel_swap hf, blendChannel_toNat_of_le (Nat.sub_le _ _) h]

@[simp] theorem blendChannel_self {f : Nat} (hf : f ≤ 16) (a : Byte) : blendChannel f a a = a :=
  BitVec.eq_of_toNat_eq (by simp [blendChannel_toNat_of_le hf le_rfl])

@[simp] theorem blendChannel_zero (a b : Byte) : blendChannel 0 a b = a :=
  BitVec.eq_of_toNat_eq (by simp [blendChannel_toNat])

@[simp] theorem blendChannel_sixteen (a b : Byte) : blendChannel 16 a b = b :=
  BitVec.eq_of_toNat_eq (by simp [blendChannel_toNat])

/-- A channel that does not fall moves upwards with `f` (R106). -/
theorem blendChannel_mono {f g : Nat} (hfg : f ≤ g) (hg : g ≤ 16) {a b : Byte} (h : a.toNat ≤ b.toNat) :
    (blendChannel f a b).toNat ≤ (blendChannel g a b).toNat := by
  rw [blendChannel_toNat_of_le (hfg.trans hg) h, blendChannel_toNat_of_le hg h]
  gcongr

/-- A channel that does not rise moves downwards with `f` (R106). -/
theorem blendChannel_anti {f g : Nat} (hfg : f ≤ g) (hg : g ≤ 16) {a b : Byte} (h : b.toNat ≤ a.toNat) :
    (blendChannel g a b).toNat ≤ (blendChannel f a b).toNat := by
  rw [← blendChannel_swap hg, ← blendChannel_swap (hfg.trans hg)]
  exact blendChannel_mono (Nat.sub_le_sub_left hfg 16) (Nat.sub_le _ _) h

/-- A blended channel lies between its two ends, which it takes at `f = 0` and `f = 16` (R106). -/
theorem blendChannel_between {f : Nat} (hf : f ≤ 16) (a b : Byte) :
    min a.toNat b.toNat ≤ (blendChannel f a b).toNat ∧ (blendChannel f a b).toNat ≤ max a.toNat b.toNat := by
  rcases Nat.le_total a.toNat b.toNat with h | h
  · simpa [h] using And.intro (blendChannel_mono (Nat.zero_le f) hf h) (blendChannel_mono hf le_rfl h)
  · simpa [h] using And.intro (blendChannel_anti hf le_rfl h) (blendChannel_anti (Nat.zero_le f) hf h)

/-- One sixteenth further a channel moves by at most a sixteenth of the difference, rounded up (R106). -/
theorem distance_blendChannel_succ {f : Nat} (hf : f < 16) (a b : Byte) :
    distance (blendChannel (f + 1) a b) (blendChannel f a b) ≤ (distance b a + 15) / 16 := by
  unfold distance
  rcases Nat.le_total a.toNat b.toNat with h | h
  · have hstep : (b.toNat - a.toNat) * (f + 1) = (b.toNat - a.toNat) * f + (b.toNat - a.toNat) := Nat.mul_succ _ _
    rw [blendChannel_toNat_of_le (Nat.add_one_le_of_lt hf) h, blendChannel_toNat_of_le hf.le h, hstep]
    omega
  · have hstep : (a.toNat - b.toNat) * (16 - f) = (a.toNat - b.toNat) * (16 - (f + 1)) + (a.toNat - b.toNat) := by
      rw [← Nat.mul_succ]
      congr 1
      omega
    rw [blendChannel_toNat_of_ge (Nat.add_one_le_of_lt hf) h, blendChannel_toNat_of_ge hf.le h, hstep]
    omega

end Sys2Proof.Machine
end

section
/-! SUPPORT. Samples of a palette, stop by stop and channel by channel (O37 to O43). -/

namespace Sys2Proof.Machine

open Sys2Proof.Spec

theorem channel_map₂ {c : Rgb → Byte} (hc : c ∈ channels) (f : Byte → Byte → Byte) (a b : Rgb) :
    c (Rgb.map₂ f a b) = f (c a) (c b) := by
  simp only [channels, List.mem_cons, List.not_mem_nil, or_false] at hc
  rcases hc with rfl | rfl | rfl <;> rfl

@[simp] theorem map₂_blendChannel_zero (a b : Rgb) : Rgb.map₂ (blendChannel 0) a b = a := by simp [Rgb.map₂]

@[simp] theorem map₂_blendChannel_sixteen (a b : Rgb) : Rgb.map₂ (blendChannel 16) a b = b := by simp [Rgb.map₂]

@[simp] theorem map₂_blendChannel_self {f : Nat} (hf : f ≤ 16) (a : Rgb) : Rgb.map₂ (blendChannel f) a a = a := by
  simp [Rgb.map₂, hf]

/-- A channel of a linear sample is that channel of the segment's two stops, blended (R102). -/
theorem channel_sampleLinear {c : Rgb → Byte} (hc : c ∈ channels) (p : Palette) (idx : Byte) :
    c (sampleLinear p idx) =
      blendChannel (idx.toNat % 16) (c (p.stop (idx.toNat / 16))) (c (p.stop (idx.toNat / 16 + 1))) :=
  channel_map₂ hc _ _ _

/-- The linear sample `f` sixteenths into segment `k` (R101 to R103). The end of a segment, `f = 16`, is the start of the next one,
and that of the last is the start of the first. -/
theorem sampleLinear_segment (p : Palette) {k f : Nat} (hk : k < 16) (hf : f ≤ 16) :
    sampleLinear p (BitVec.ofNat 8 (16 * k + f)) = Rgb.map₂ (blendChannel f) (p.stop k) (p.stop (k + 1)) := by
  rcases Nat.lt_or_eq_of_le hf with hlt | rfl
  · have hidx : (BitVec.ofNat 8 (16 * k + f)).toNat = 16 * k + f := Nat.mod_eq_of_lt (by omega)
    have hdiv : (16 * k + f) / 16 = k := by omega
    have hmod : (16 * k + f) % 16 = f := by omega
    rw [sampleLinear, hidx, hdiv, hmod]
  · have hdiv : (BitVec.ofNat 8 (16 * k + 16)).toNat / 16 = (k + 1) % 16 := by rw [BitVec.toNat_ofNat]; omega
    have hmod : (BitVec.ofNat 8 (16 * k + 16)).toNat % 16 = 0 := by rw [BitVec.toNat_ofNat]; omega
    rw [sampleLinear, hdiv, hmod, map₂_blendChannel_zero, Palette.stop_mod, map₂_blendChannel_sixteen]

theorem channel_sampleLinear_segment {c : Rgb → Byte} (hc : c ∈ channels) (p : Palette) {k f : Nat} (hk : k < 16) (hf : f ≤ 16) :
    c (sampleLinear p (BitVec.ofNat 8 (16 * k + f))) = blendChannel f (c (p.stop k)) (c (p.stop (k + 1))) := by
  rw [sampleLinear_segment p hk hf, channel_map₂ hc]

/-- The sample at the next index is one sixteenth further in the same segment, also from 255 to 0. -/
theorem channel_sampleLinear_succ {c : Rgb → Byte} (hc : c ∈ channels) (p : Palette) (idx : Byte) :
    c (sampleLinear p (idx + 1)) =
      blendChannel (idx.toNat % 16 + 1) (c (p.stop (idx.toNat / 16))) (c (p.stop (idx.toNat / 16 + 1))) := by
  have hlt := idx.isLt
  have hidx : idx + 1 = BitVec.ofNat 8 (16 * (idx.toNat / 16) + (idx.toNat % 16 + 1)) := by
    rw [← Nat.add_assoc, Nat.div_add_mod, BitVec.ofNat_add, BitVec.ofNat_toNat, BitVec.setWidth_eq]
    rfl
  rw [hidx, channel_sampleLinear_segment hc p (by omega) (by omega)]

/-- At a stop's index a linear sample is that stop (R106). -/
theorem sampleLinear_at_stop (p : Palette) {k : Nat} (hk : k < 16) : sampleLinear p (BitVec.ofNat 8 (16 * k)) = p.stop k := by
  simpa using sampleLinear_segment p hk (Nat.zero_le 16)

/-- With `NEAREST` a stepped sample is the stop nearest to the index, on the ring of stops (R104). -/
theorem sampleStepped_nearest (p : Palette) (idx : Byte) :
    sampleStepped .nearest p idx = p.stop ((idx.toNat + 8) / 16 % 16) := by
  simp [sampleStepped, Nat.shiftRight_eq_div_pow]

/-- Settles O37: the blended channel as a number; the stop after stop 15 is stop 0. -/
theorem linearSampleChannels : Obligations.LinearSampleChannels := by
  intro p sel idx c hc
  rw [Palette.stop_mod, samplePalette, channel_sampleLinear hc, blendChannel_toNat _ _ _ (by omega)]

/-- Settles O38: the high four bits of the index are its quotient by 16; the ranges of `NEAREST` are those of the rounded quotient. -/
theorem steppedSampleIsOneStop : Obligations.SteppedSampleIsOneStop := by
  intro p idx
  have hlt := idx.isLt
  have hhigh : (idx.extractLsb' 4 4).toNat = idx.toNat / 16 := by
    rw [BitVec.extractLsb'_toNat, Nat.shiftRight_eq_div_pow]
    omega
  have hnearest : ∀ k, (idx.toNat + 8) / 16 % 16 = k → samplePalette .nearest p idx .stepped = p.stop k := by
    rintro k rfl
    exact sampleStepped_nearest p idx
  refine ⟨?_, hnearest _ rfl, fun h => hnearest 0 (by omega), fun k hk hlow hhigh => hnearest k (by omega)⟩
  rw [hhigh]
  rfl

/-- Settles O39: index `16 * k` is the start of segment `k`. -/
theorem sampleIsExactAtStops : Obligations.SampleIsExactAtStops := by
  intro p k b hk
  cases b with
  | linear => exact sampleLinear_at_stop p hk
  | stepped =>
    have hdiv : (BitVec.ofNat 8 (16 * k)).toNat / 16 = k := by rw [BitVec.toNat_ofNat]; omega
    simp only [samplePalette, sampleStepped, hdiv]

/-- Settles O40: the sample is a blend of the two stops. -/
theorem sampleStaysBetweenItsStops : Obligations.SampleStaysBetweenItsStops := by
  intro p idx c hc
  rw [channel_sampleLinear hc]
  exact blendChannel_between (by omega) _ _

/-- Settles O42: two consecutive samples are blends of the same two stops, one sixteenth apart. -/
theorem sampleIsContinuousAndMonotone : Obligations.SampleIsContinuousAndMonotone := by
  refine ⟨fun p idx c hc => ?_, fun p k f g hk hfg hg c hc => ?_⟩
  · rw [channel_sampleLinear_succ hc, channel_sampleLinear hc]
    exact distance_blendChannel_succ (Nat.mod_lt _ (by omega)) _ _
  · rw [channel_sampleLinear_segment hc p hk (hfg.trans hg.le), channel_sampleLinear_segment hc p hk hg.le]
    exact ⟨blendChannel_mono hfg hg.le, blendChannel_anti hfg hg.le⟩

/-- Settles O43: in the last segment the two stops blended are the same. -/
theorem sampleWrapsAroundSeamlessly : Obligations.SampleWrapsAroundSeamlessly := by
  intro p h
  have hnext : p.stop 16 = p.stop 0 := (p.stop_mod 16).symm
  refine ⟨?_, sampleLinear_at_stop p (k := 0) (by omega)⟩
  calc sampleLinear p 255 = Rgb.map₂ (blendChannel 15) (p.stop 15) (p.stop 16) :=
        sampleLinear_segment p (k := 15) (f := 15) (by omega) (by omega)
    _ = p.stop 0 := by rw [h, hnext, map₂_blendChannel_self (by omega)]

/-- Refutes O41: with stop 0 at red 1 and stop 1 at red 0 the sample at index 15 is `(1 * 1 + 0 * 15) div 16 = 0`, the next stop. -/
theorem not_sampleNeverReachesNextStopInside : ¬ Obligations.SampleNeverReachesNextStopInside := by
  intro h
  exact h (.ofFn fun k => if k = 0 then ⟨1, 0, 0⟩ else Rgb.black) 15 Rgb.r (by simp [channels]) (by decide) (by decide)

end Sys2Proof.Machine
end

section
/-! SUPPORT. The mode codes (O52), and the palette multiplexer (O14). -/

namespace Sys2Proof.Machine

theorem Mode.ofCode_eq_some_iff {c : Byte} {m : Mode} : Mode.ofCode c = some m ↔ m.code = c := by
  constructor
  · exact Mode.code_of_ofCode
  · rintro rfl
    exact Mode.ofCode_code m

/-- Settles O52: `Mode.code` and `Mode.ofCode` are inverse, and what names no mode is above 8. -/
theorem modeCodesAreZeroToEight : Obligations.ModeCodesAreZeroToEight :=
  ⟨fun _ _ => Mode.ofCode_eq_some_iff, Mode.ofCode_eq_none, rfl⟩

/-- Stop `k` of an answered palette, packed, is its 24 bits of the answer (R43). -/
theorem pack_stop_ofData (d : BitVec 384) {k : Nat} (hk : k < 16) :
    ((Palette.ofData d).stop k).pack = d.extractLsb' (24 * k) 24 := by
  rw [Palette.ofData, Palette.stop_ofFn, Nat.mod_eq_of_lt hk, Rgb.pack_unpack]

theorem resolve_randomPair_requests (c : Catalog) (p : PaletteChannel) :
    (resolve c .randomPair p).2.2.requests = p.requests + 2 := by simp

/-- Settles O14: the two cases of `Resolve`, and the bits of an answered stop. -/
theorem resolveIsThePaletteMultiplexer : Obligations.ResolveIsThePaletteMultiplexer := by
  refine ⟨resolve_catalog, resolve_randomPair_requests, fun _ _ _ _ _ => rfl, fun d k j hk hj => ?_⟩
  simp [pack_stop_ofData d hk, hj]

end Sys2Proof.Machine
end

section
/-! SUPPORT. NOP and OFF (O7, O8). -/

namespace Sys2Proof.Machine

open Sys2Proof.Spec

/-- A command without operand has no operand bit: any other operand field raises `BadCommand` (R82, R85). -/
theorem raisesBadCommand_of_formatZ {o : Opcode} (ho : o.format = .Z) {arg : BitVec 32} (h : arg ≠ 0) :
    raisesBadCommand (o.toByte ++ arg) := by
  apply raisesBadCommand_of_zerosHold_eq_false
  rw [ho]
  exact beq_eq_false_iff_ne.mpr h

/-- Settles O7: NOP by its definition, its word, and the operands it may not have. -/
theorem nopChangesNothing : Obligations.NopChangesNothing :=
  ⟨fun _ => rfl, decode_encode .nop, fun _ => raisesBadCommand_of_formatZ (o := .nop) rfl⟩

theorem blackout_eq (s : State) : blackout s = { s with fb := List.replicate s.cfg.numLeds Rgb.black } := by
  simp [blackout, writeFrame]

theorem exec_off (s : State) : exec .off s = .next { s with on := false, fb := List.replicate s.cfg.numLeds Rgb.black } :=
  congrArg Host.Outcome.next (blackout_eq { s with on := false })

/-- Settles O8: OFF as an update of two elements, which a second OFF writes with the same values. -/
theorem offBlacksTheFrame : Obligations.OffBlacksTheFrame := by
  refine ⟨exec_off, fun s t h => ?_, decode_encode .off, fun _ => raisesBadCommand_of_formatZ (o := .off) rfl⟩
  cases (exec_off s).symm.trans h
  exact ⟨exec_off _, (status_getLsbD _).1⟩

end Sys2Proof.Machine
end

section
/-! SUPPORT. What RUN does not read: `BRIGHT`, the log and the old frame (R62, R131, R203). -/

namespace Sys2Proof.Machine

open Sys2Proof.Spec

/-- The state with another level and another log: the two elements that RUN neither reads nor writes. -/
def withBrightLog (bright : Byte) (log : List Byte) (s : State) : State := { s with bright := bright, logOut := log }

/-- The same with another frame too: RUN writes the whole frame and reads none of it. -/
def withUnreadByRun (bright : Byte) (log : List Byte) (frame : List Rgb) (s : State) : State :=
  { withBrightLog bright log s with fb := frame }

section
variable (bright : Byte) (log : List Byte) (frame : List Rgb) (s : State)

theorem runScroll_withUnreadByRun (cfg : ModeConfig) (now : BitVec 32) :
    runScroll cfg now (withUnreadByRun bright log frame s) = withBrightLog bright log (runScroll cfg now s) := by
  cases hm : cfg.masked <;> simp only [runScroll, hm] <;> rfl

theorem runFire_withUnreadByRun :
    runFire (withUnreadByRun bright log frame s) = mapNext (withBrightLog bright log) (runFire s) := by
  have hdraws : fireHeat (withUnreadByRun bright log frame s).cfg (withUnreadByRun bright log frame s).heat
      (withUnreadByRun bright log frame s).rnd = fireHeat s.cfg s.heat s.rnd := rfl
  unfold runFire
  rw [hdraws]
  cases fireHeat s.cfg s.heat s.rnd <;> rfl

theorem execRun_withUnreadByRun (now : BitVec 32) :
    execRun now (withUnreadByRun bright log frame s) = mapNext (withBrightLog bright log) (execRun now s) := by
  have hon : (withUnreadByRun bright log frame s).on = s.on := rfl
  have hcfg : (withUnreadByRun bright log frame s).modeCfg = s.modeCfg := rfl
  unfold execRun
  rw [hon, hcfg]
  cases s.on
  · rfl
  · cases s.modeCfg.strategy with
    | scroll => exact congrArg Host.Outcome.next (runScroll_withUnreadByRun bright log frame s _ now)
    | crossfade => rfl
    | fire => exact runFire_withUnreadByRun bright log frame s

end

/-- RUN keeps the level and the log. -/
theorem bright_logOut_of_execRun {s t : State} {now : BitVec 32} (h : execRun now s = .next t) :
    t.bright = s.bright ∧ t.logOut = s.logOut := by
  cases commandEffect_of_execRun h <;> simp

theorem mapNext_congr {f g : State → State} {o : Host.Outcome State Fault Refusal} (h : ∀ t, o = .next t → f t = g t) :
    mapNext f o = mapNext g o := by
  cases o with
  | next t => exact congrArg Host.Outcome.next (h t rfl)
  | fault | refused => rfl

theorem mapNext_id (o : Host.Outcome State Fault Refusal) : mapNext id o = o := by cases o <;> rfl

/-- What stands in the frame makes no difference to RUN (R62). -/
theorem execRun_with_fb (now : BitVec 32) (s : State) (frame : List Rgb) : execRun now { s with fb := frame } = execRun now s := by
  calc execRun now { s with fb := frame } = mapNext (withBrightLog s.bright s.logOut) (execRun now s) :=
        execRun_withUnreadByRun s.bright s.logOut frame s now
    _ = mapNext id (execRun now s) := mapNext_congr fun t h => by
        obtain ⟨hbright, hlog⟩ := bright_logOut_of_execRun h
        rw [← hbright, ← hlog]
        rfl
    _ = execRun now s := mapNext_id _

/-- RUN is indifferent to the level (R131). -/
theorem execRun_with_bright (now : BitVec 32) (s : State) (level : Byte) :
    execRun now { s with bright := level } = mapNext (fun t => { t with bright := level }) (execRun now s) := by
  calc execRun now { s with bright := level } = mapNext (withBrightLog level s.logOut) (execRun now s) :=
        execRun_withUnreadByRun level s.logOut s.fb s now
    _ = mapNext (fun t => { t with bright := level }) (execRun now s) := mapNext_congr fun t h => by
        rw [← (bright_logOut_of_execRun h).2]
        rfl

/-- RUN is indifferent to what was logged (R203). -/
theorem execRun_with_logOut (now : BitVec 32) (s : State) (log : List Byte) :
    execRun now { s with logOut := log } = mapNext (fun t => { t with logOut := log }) (execRun now s) := by
  calc execRun now { s with logOut := log } = mapNext (withBrightLog s.bright log) (execRun now s) :=
        execRun_withUnreadByRun s.bright log s.fb s now
    _ = mapNext (fun t => { t with logOut := log }) (execRun now s) := mapNext_congr fun t h => by
        rw [← (bright_logOut_of_execRun h).1]
        rfl

end Sys2Proof.Machine
end

section
/-! SUPPORT. ON (O9). -/

namespace Sys2Proof.Machine

theorem with_on_of_on {s : State} (h : s.on = true) : { s with on := true } = s := by rw [← h]

theorem execAll_singleton (i : Instr) (s : State) : execAll [i] s = exec i s := by
  rw [execAll]
  cases exec i s <;> rfl

/-- From a state that is on, OFF and then ON leave the frame black and all else as it was (R129, R130). -/
theorem execAll_off_on {s : State} (h : s.on = true) (rest : List Instr) :
    execAll (.off :: .on :: rest) s = execAll rest { s with fb := List.replicate s.cfg.numLeds Rgb.black } := by
  rw [execAll_cons (exec_off s), execAll_cons rfl, ← h]

/-- Settles O9: the black frame that OFF, ON leave is not read by the RUN after them. -/
theorem onResumesWhereItLeftOff : Obligations.OnResumesWhereItLeftOff := by
  refine ⟨fun _ => rfl, fun s h => congrArg Host.Outcome.next (with_on_of_on h), fun s now h => ?_, decode_encode .on,
    fun _ => raisesBadCommand_of_formatZ (o := .on) rfl⟩
  rw [execAll_off_on h, execAll_singleton]
  exact execRun_with_fb now s _

end Sys2Proof.Machine
end

section
/-! SUPPORT. SETMODE: its assignments (O13) and what makes it a full reinitialisation (O15). -/

namespace Sys2Proof.Machine

/-- SETMODE with a mode's code enters that mode, from every state (R125, R127). -/
theorem exec_setmode_code (m : Mode) (s : State) : exec (.setmode m.code) s = .next (enterMode m s) := by
  cases m <;> rfl

/-- Settles O13: an admitted code enters its mode, whose assignments are those of `enterMode`; the two errors. -/
theorem setmodeAssignsTheConfiguration : Obligations.SetmodeAssignsTheConfiguration := by
  refine ⟨fun s m hm => ?_, fun s m hm => exec_setmode_reserved hm s, fun arg harg =>
    raisesBadCommand_of_zerosHold_eq_false (o := .setmode) (zerosHold_eq_false_of_byte_overflow harg).1⟩
  obtain ⟨md, rfl, hexec⟩ := exec_setmode_admitted hm s
  exact ⟨md, rfl, hexec⟩

/-- A catalog mode entered again only logs again: every element it assigns has that value already (R127). -/
theorem enterMode_enterMode {m : Mode} {s : State} {id : PaletteId} (h : (s.cfg.modeTable.config m).palette = .catalog id) :
    enterMode m (enterMode m s) = { enterMode m s with logOut := (enterMode m s).logOut ++ [m.code] } := by
  have hcfg : (enterMode m s).cfg = s.cfg := rfl
  have hpal : (enterMode m s).pal = s.pal := by rw [enterMode_pal, h, resolve_catalog]
  rw [enterMode, hcfg, hpal]
  rfl

/-- Settles O15: SETMODE as `enterMode`, its palettes case by case, and RUN's indifference to the log. -/
theorem setmodeIsAFullReinitialisation : Obligations.SetmodeIsAFullReinitialisation := by
  refine ⟨fun s md => ⟨_, exec_setmode_code md s, rfl, rfl, rfl, rfl, rfl⟩, fun s t md id hp h => ?_, fun s t md hp h => ?_,
    fun s log now => execRun_with_logOut now s log⟩
  · cases (exec_setmode_code md s).symm.trans h
    rw [exec_setmode_code, enterMode_enterMode hp]
  · cases (exec_setmode_code md s).symm.trans h
    rw [enterMode_pal, hp, resolve_randomPair_requests]

end Sys2Proof.Machine
end

section
/-! SUPPORT. SETBRIGHT (O10). -/

namespace Sys2Proof.Machine

open Sys2Proof.Spec

/-- A byte is a mode's code, or it is above 8 (R124). -/
theorem code_or_reserved (c : Byte) : (∃ m : Mode, m.code = c) ∨ 8 < c.toNat := by
  cases h : Mode.ofCode c with
  | some m => exact .inl ⟨m, Mode.code_of_ofCode h⟩
  | none => exact .inr ((Mode.ofCode_eq_none c).mp h)

/-- SETMODE is indifferent to the level (R131). -/
theorem exec_setmode_with_bright (code : Byte) (s : State) (level : Byte) :
    exec (.setmode code) { s with bright := level } =
      mapNext (fun t => { t with bright := level }) (exec (.setmode code) s) := by
  obtain ⟨m, rfl⟩ | h := code_or_reserved code
  · rw [exec_setmode_code, exec_setmode_code]
    rfl
  · rw [exec_setmode_reserved h, exec_setmode_reserved h]
    rfl

/-- Settles O10: SETBRIGHT by its definition; command by command, no other reads the level. -/
theorem brightnessIsStoredAndNeverRead : Obligations.BrightnessIsStoredAndNeverRead := by
  refine ⟨fun _ _ => rfl, fun s level i hi => ?_, fun arg harg =>
    raisesBadCommand_of_zerosHold_eq_false (o := .setbright) (zerosHold_eq_false_of_byte_overflow harg).2⟩
  cases i with
  | nop | off | on | setblend | sample => rfl
  | setmode code => exact exec_setmode_with_bright code s level
  | run now => exact execRun_with_bright now s level
  | setbright l => exact absurd rfl (hi l)

end Sys2Proof.Machine
end

section
/-! SUPPORT. RUN while off (O17) and the off period (O18). -/

namespace Sys2Proof.Machine

open Sys2Proof.Spec

/-- While off, RUN is `RunOff`, which writes the frame only (R141). -/
theorem exec_run_off {s : State} (hoff : s.on = false) (now : BitVec 32) :
    exec (.run now) s = .next { s with fb := List.replicate s.cfg.numLeds Rgb.black } := by
  have hrun : exec (.run now) s = .next (blackout s) := by simp [exec, execRun, hoff, runOff]
  rw [hrun, blackout_eq]

/-- Settles O17: the off branch of RUN. -/
theorem runWhileOffOnlyBlacks : Obligations.RunWhileOffOnlyBlacks :=
  fun _ now hoff => exec_run_off hoff now

/-- Off and black already, any number of RUNs does nothing (R141). -/
theorem execAll_ticks_append_of_black {s : State} (hoff : s.on = false) (hblack : s.fb = List.replicate s.cfg.numLeds Rgb.black)
    (nows : List (BitVec 32)) (rest : List Instr) : execAll (ticks nows ++ rest) s = execAll rest s := by
  induction nows with
  | nil => rfl
  | cons now nows ih =>
    have hrun : exec (.run now) s = .next s := by rw [exec_run_off hoff, ← hblack]
    exact (execAll_cons hrun _).trans ih

/-- RUNs right after OFF make no difference to what follows (R141). -/
theorem execAll_off_ticks_append (s : State) (nows : List (BitVec 32)) (rest : List Instr) :
    execAll (.off :: ticks nows ++ rest) s = execAll (.off :: rest) s := by
  rw [List.cons_append, execAll_cons (exec_off s), execAll_cons (exec_off s)]
  exact execAll_ticks_append_of_black rfl rfl nows rest

/-- Settles O18: without the RUNs between them, OFF, ON, RUN is the case of O9. -/
theorem offPeriodLeavesNoTrace : Obligations.OffPeriodLeavesNoTrace := by
  obtain ⟨-, -, hresume, -⟩ := onResumesWhereItLeftOff
  refine ⟨fun s nows => ?_, fun s nows now hon => ?_⟩
  · rw [← List.append_nil (.off :: ticks nows), execAll_off_ticks_append, execAll_singleton]
  · rw [execAll_off_ticks_append, hresume s now hon]

end Sys2Proof.Machine
end

section
/-! SUPPORT. The gate's modular difference, and which RUN evaluates which gate (O19). -/

namespace Sys2Proof.Machine

open Sys2Proof.Spec

/-- The difference of two clock readings, as the number of R142. -/
theorem toNat_sub_clock (now last : BitVec 32) : (now - last).toNat = (now.toNat + 2 ^ 32 - last.toNat) % 2 ^ 32 := by
  have hlast := last.isLt
  rw [BitVec.toNat_sub]
  congr 1
  omega

theorem not_admittedSetmode_run (now : BitVec 32) : ¬ AdmittedSetmode (.run now) := by
  rintro ⟨m, hm, -⟩
  cases hm

theorem runsBy_of_runIn {s : State} {i : Instr} {g : Strategy} (h : RunIn s i g) : runsBy s g := by
  obtain ⟨-, -, running⟩ := h
  exact running

/-- Settles O19: the gate's three branches on the modular difference; by the writer table, RUN moves a gate only in the strategy
that owns it. -/
theorem gateFiresOnThePeriod : Obligations.GateFiresOnThePeriod := by
  refine ⟨gate_unarmed, fun g now p harmed hp => ?_, fun g now p harmed hp => ?_, fun s t now h hnot => ?_,
    fun s t now h hnot => ?_⟩
  · exact gate_fires g now p harmed (by rwa [toNat_sub_clock])
  · exact gate_waits g now p harmed (by rwa [toNat_sub_clock])
  · by_contra hne
    obtain ⟨running, hmasked⟩ :=
      (setmode_or_masked_of_mask_ne (commandEffect_of_exec h) (.inr hne)).resolve_left (not_admittedSetmode_run now)
    exact hnot ⟨runsBy_of_runIn running, hmasked⟩
  · by_contra hne
    have running := (setmode_or_crossfade_of_tgtGate_ne (commandEffect_of_exec h) hne).resolve_left (not_admittedSetmode_run now)
    exact hnot (runsBy_of_runIn running)

end Sys2Proof.Machine
end

section
/-! SUPPORT. RUN in the `SCROLL` strategy, element by element (O20), and its tiles (O21). -/

namespace Sys2Proof.Machine

open Sys2Proof.Spec

/-- In a scroll mode that is on, RUN is `RunScroll` (R140). -/
theorem exec_run_scroll {s : State} (h : runsBy s .scroll) (now : BitVec 32) :
    exec (.run now) s = .next (runScroll s.modeCfg now s) := by
  obtain ⟨hon, hscroll⟩ := h
  simp [exec, execRun, hon, hscroll]

/-- `OFFSET` advances by `delta`, signed, modulo 256 (R143). -/
theorem advanceOffset_offset_toNat (delta : Byte) (s : State) :
    ((advanceOffset delta s).offset.toNat : Int) = (s.offset.toNat + delta.toInt) % 256 := by
  simp [BitVec.toNat_ofInt, Int.emod_nonneg]

/-- The counter steps modulo 11 exactly if the gate fires; 4 bits hold it (R143). -/
theorem stepMask_secCnt_toNat (now : BitVec 32) (s : State) :
    (stepMask now s).secCnt.toNat =
      if (gate s.maskGate now s.cfg.maskPeriodMs).1 then (s.secCnt.toNat + 1) % 11 else s.secCnt.toNat := by
  rw [stepMask_secCnt]
  split
  · exact Nat.mod_eq_of_lt (by omega)
  · rfl

/-- The colour of an LED, in the words of the statements (R144). -/
theorem scrollPixel_eq (range : Byte) (masked : Bool) (s : State) (i : Nat) :
    scrollPixel range masked s i =
      if masked = true ∧ (i + s.secCnt.toNat) % 11 < 5 then Rgb.black
      else currentColour s (i / s.cfg.tileSize * (range.toNat / s.cfg.numTiles) + s.offset.toNat) := by
  simp only [scrollPixel, maskedOut, Bool.and_eq_true, decide_eq_true_eq]
  rfl

/-- The colours of the current palette depend on the parameters, the palette and `BLEND` only (R107). -/
theorem currentColour_congr {s t : State} (hparams : t.params = s.params) (hpal : t.curPal = s.curPal)
    (hblend : t.blend = s.blend) :
    currentColour t = currentColour s := by
  funext idx
  simp only [currentColour, State.cfg, hparams, hpal, hblend]

/-- What the scroll renderer shows does not depend on the frame it replaces (R144). -/
@[simp] theorem scrollPixel_scrollRender (range : Byte) (masked : Bool) (s : State) :
    scrollPixel range masked (scrollRender range masked s) = scrollPixel range masked s := rfl

section
variable (cfg : ModeConfig) (now : BitVec 32) (s : State)

@[simp] theorem runScroll_cfg : (runScroll cfg now s).cfg = s.cfg := by
  simp [State.cfg]

@[simp] theorem runScroll_modeCfg : (runScroll cfg now s).modeCfg = s.modeCfg := by
  simp [State.modeCfg]

theorem runScroll_offset_toNat : ((runScroll cfg now s).offset.toNat : Int) = (s.offset.toNat + cfg.delta.toInt) % 256 := by
  rw [← advanceOffset_offset_toNat]
  unfold runScroll
  split <;> simp

/-- In a masked mode the gate is evaluated and steps the counter if it fires (R143). -/
theorem runScroll_masked (masked : cfg.masked = true) :
    (runScroll cfg now s).maskGate = (gate s.maskGate now s.cfg.maskPeriodMs).2 ∧
    (runScroll cfg now s).secCnt.toNat =
      if (gate s.maskGate now s.cfg.maskPeriodMs).1 then (s.secCnt.toNat + 1) % 11 else s.secCnt.toNat := by
  rw [runScroll, if_pos masked]
  exact ⟨rfl, stepMask_secCnt_toNat now (advanceOffset cfg.delta s)⟩

/-- The whole frame of RUN in `SCROLL` (R143). -/
theorem runScroll_eq_with :
    runScroll cfg now s = { s with
      offset := (runScroll cfg now s).offset
      maskGate := (runScroll cfg now s).maskGate
      secCnt := (runScroll cfg now s).secCnt
      fb := (runScroll cfg now s).fb } := by
  unfold runScroll
  split <;> rfl

/-- The frame that RUN leaves shows the offset and the counter that RUN leaves (R143, R144). -/
theorem runScroll_fb :
    (runScroll cfg now s).fb =
      (List.range s.cfg.numLeds).map (scrollPixel cfg.range cfg.masked (runScroll cfg now s)) := by
  have hcfg := runScroll_cfg cfg now s
  rw [← hcfg]
  rfl

/-- LED by LED, the frame that RUN leaves (R144). -/
theorem runScroll_fb_getElem? {i : Nat} (hi : i < s.cfg.numLeds) :
    (runScroll cfg now s).fb[i]? = some
      (if cfg.masked = true ∧ (i + (runScroll cfg now s).secCnt.toNat) % 11 < 5 then Rgb.black
       else currentColour s
        (i / s.cfg.tileSize * (cfg.range.toNat / s.cfg.numTiles) + (runScroll cfg now s).offset.toNat)) := by
  have hcolour : currentColour (runScroll cfg now s) = currentColour s := currentColour_congr (by simp) (by simp) (by simp)
  rw [runScroll_fb, List.getElem?_map, List.getElem?_range hi, Option.map_some, scrollPixel_eq, hcolour, runScroll_cfg]

end

/-- Settles O20: RUN is `RunScroll`, whose elements are said one by one above. -/
theorem runScrollResult : Obligations.RunScrollResult := by
  intro s now h
  refine ⟨_, exec_run_scroll h now, runScroll_eq_with _ now s, runScroll_offset_toNat _ now s, fun hm => ?_,
    runScroll_masked _ now s, runScroll_fb_length _ now s, fun i => runScroll_fb_getElem? _ now s⟩
  exact (runScroll_unmasked_frame hm now s).symm

/-- LED `j` of tile `k` is one of the LEDs (R5). -/
theorem led_lt_numLeds {p : Params} {k j : Nat} (hk : k < p.numTiles) (hj : j < p.tileSize) : k * p.tileSize + j < p.numLeds :=
  calc k * p.tileSize + j < (k + 1) * p.tileSize := by rw [Nat.succ_mul]; exact Nat.add_lt_add_left hj _
    _ ≤ p.numLeds := Nat.mul_le_mul_right _ hk

/-- LED `j` of tile `k` lies in tile `k` (R144). -/
theorem tile_of_led {size k j : Nat} (hj : j < size) : (k * size + j) / size = k := by
  rw [Nat.mul_comm, Nat.mul_add_div (Nat.zero_lt_of_lt hj), Nat.div_eq_of_lt hj, Nat.add_zero]

/-- Settles O21: without the mask an LED's colour depends on its tile only. -/
theorem unmaskedTilesAreFlat : Obligations.UnmaskedTilesAreFlat := by
  intro s t now h hm hexec k j hk hj
  cases (exec_run_scroll h now).symm.trans hexec
  rw [runScroll_fb_getElem? _ now s (led_lt_numLeds hk hj), tile_of_led hj, if_neg (by simp [hm])]

end Sys2Proof.Machine
end

section
/-! SUPPORT. The offset law (O22). -/

namespace Sys2Proof.Machine

open Sys2Proof.Spec

/-- `OFFSET` is below 256 already: no RUN, no advance (R25). -/
theorem offset_eq_advanced_zero_times (s : State) (delta : Int) :
    (s.offset.toNat : Int) = (s.offset.toNat + (0 : Nat) * delta) % 256 := by
  have hlt := s.offset.isLt
  omega

/-- What a command other than OFF and SETMODE does to a scroll mode that is on: it completes, the mode scrolls on, and `OFFSET`
advances by `delta` if the command is RUN (R143, R146). -/
theorem exec_keeps_scrolling {s : State} (h : runsBy s .scroll) {i : Instr} (hoff : i ≠ .off) (hset : ∀ m, i ≠ .setmode m) :
    ∃ t, exec i s = .next t ∧ t.on = true ∧ t.modeCfg = s.modeCfg ∧
      (t.offset.toNat : Int) = (s.offset.toNat + runCount [i] * s.modeCfg.delta.toInt) % 256 := by
  have ⟨hon, _⟩ := h
  have hkept := offset_eq_advanced_zero_times s s.modeCfg.delta.toInt
  cases i with
  | nop | setbright | setblend | sample => exact ⟨_, rfl, hon, rfl, hkept⟩
  | on => exact ⟨_, rfl, rfl, rfl, hkept⟩
  | run now =>
    refine ⟨_, exec_run_scroll h now, by simp [hon], runScroll_modeCfg _ now s, ?_⟩
    simpa [runCount] using runScroll_offset_toNat s.modeCfg now s
  | off => exact absurd rfl hoff
  | setmode m => exact absurd rfl (hset m)

theorem runCount_cons (i : Instr) (rest : List Instr) : runCount (i :: rest) = runCount [i] + runCount rest := by
  cases i <;> simp [runCount, Nat.add_comm]

/-- The law over a list of commands, by induction on the list (R146). -/
theorem execAll_offset_of_scrolling {s : State} {cmds : List Instr} (h : runsBy s .scroll)
    (hcmds : ∀ i ∈ cmds, i ≠ .off ∧ ∀ m, i ≠ .setmode m) :
    ∃ t, execAll cmds s = .next t ∧
      (t.offset.toNat : Int) = (s.offset.toNat + runCount cmds * s.modeCfg.delta.toInt) % 256 := by
  induction cmds generalizing s with
  | nil => exact ⟨s, rfl, offset_eq_advanced_zero_times s _⟩
  | cons i rest ih =>
    have ⟨_, hscroll⟩ := h
    obtain ⟨⟨hoff, hset⟩, hrest⟩ := List.forall_mem_cons.mp hcmds
    obtain ⟨u, hexec, hon, hcfg, hu⟩ := exec_keeps_scrolling h hoff hset
    have running : runsBy u .scroll := ⟨hon, hcfg ▸ hscroll⟩
    obtain ⟨t, hall, ht⟩ := ih running hrest
    refine ⟨t, (execAll_cons hexec rest).trans hall, ?_⟩
    rw [ht, hu, hcfg, Int.emod_add_emod, runCount_cons i rest]
    congr 1
    push_cast
    ring

/-- Settles O22: the law by induction; while off RUN writes the frame only. -/
theorem offsetLaw : Obligations.OffsetLaw := by
  refine ⟨fun _ _ => execAll_offset_of_scrolling, fun s t now hoff hexec => ?_⟩
  cases (exec_run_off hoff now).symm.trans hexec
  rfl

end Sys2Proof.Machine
end

section
/-! SUPPORT. One nudge: the three cases, and the distance to the target as a number (O24). -/

namespace Sys2Proof.Machine

open Sys2Proof.Spec

/-- A nudge takes `s` off the distance to the target, floored at 0 (R161). -/
theorem distance_nudge (s : Nat) (x t : Byte) : distance (nudge s x t) t = distance x t - s := by
  unfold distance
  rcases Nat.lt_trichotomy x.toNat t.toNat with h | h | h
  · rw [nudge_below s x t h]
    omega
  · obtain rfl := BitVec.eq_of_toNat_eq h
    rw [nudge_self]
    omega
  · rw [nudge_above s x t h]
    omega

theorem distance_le (a b : Byte) : distance a b ≤ 255 := by
  have ha := a.isLt
  have hb := b.isLt
  unfold distance
  omega

theorem eq_of_distance_eq_zero {a b : Byte} (h : distance a b = 0) : a = b := by
  unfold distance at h
  exact BitVec.eq_of_toNat_eq (by omega)

/-- Settles O24: the three cases of the nudge, read as numbers. -/
theorem nudgeMovesByTheStep : Obligations.NudgeMovesByTheStep := by
  refine ⟨fun x t s => nudge_below s x t, fun x t s h => ?_, fun t s => nudge_self s t, fun x t s => distance_nudge s x t⟩
  rw [nudge_above s x t h]
  omega

end Sys2Proof.Machine
end

section
/-! SUPPORT. RUN in the `CROSSFADE` strategy, element by element (O23). -/

namespace Sys2Proof.Machine

open Sys2Proof.Spec

/-- In a crossfade mode that is on, RUN is `RunCrossfade` (R140). -/
theorem exec_run_crossfade {s : State} (h : runsBy s .crossfade) (now : BitVec 32) :
    exec (.run now) s = .next (runCrossfade s.modeCfg now s) := by
  obtain ⟨hon, hcrossfade⟩ := h
  simp [exec, execRun, hon, hcrossfade]

/-- The first of some ticks in a crossfade mode, and the others after it (R70). -/
theorem execAll_ticks_cons {s : State} (h : runsBy s .crossfade) (now : BitVec 32) (rest : List (BitVec 32)) :
    execAll (ticks (now :: rest)) s = execAll (ticks rest) (runCrossfade s.modeCfg now s) :=
  execAll_cons (exec_run_crossfade h now) (ticks rest)

/-- Each of the 48 channels is nudged by itself (R160). -/
theorem channel_nudgePalette {c : Rgb → Byte} (hc : c ∈ channels) (step : Nat) (cur tgt : Palette) (k : Nat) :
    c ((nudgePalette step cur tgt).stop k) = nudge step (c (cur.stop k)) (c (tgt.stop k)) := by
  rw [nudgePalette, Palette.stop_map₂, channel_map₂ hc]

section
variable (cfg : ModeConfig) (now : BitVec 32) (s : State)

@[simp] theorem runCrossfade_cfg : (runCrossfade cfg now s).cfg = s.cfg := rfl

@[simp] theorem runCrossfade_modeCfg : (runCrossfade cfg now s).modeCfg = s.modeCfg := rfl

@[simp] theorem runCrossfade_offset : (runCrossfade cfg now s).offset = 0 := rfl

/-- The nudge goes toward the target that stood before the tick's gate (R160). -/
@[simp] theorem runCrossfade_curPal :
    (runCrossfade cfg now s).curPal = nudgePalette cfg.step.toNat s.curPal s.tgtPal := rfl

@[simp] theorem runCrossfade_tgtGate :
    (runCrossfade cfg now s).tgtGate = (gate s.tgtGate now s.cfg.targetPeriodMs).2 := rfl

@[simp] theorem runCrossfade_tgtPal :
    (runCrossfade cfg now s).tgtPal = if (gate s.tgtGate now s.cfg.targetPeriodMs).1 then s.pal.draw.1 else s.tgtPal := rfl

/-- The whole frame of RUN in `CROSSFADE` (R160). -/
theorem runCrossfade_eq_with :
    runCrossfade cfg now s = { s with
      offset := 0
      curPal := (runCrossfade cfg now s).curPal
      tgtPal := (runCrossfade cfg now s).tgtPal
      tgtGate := (runCrossfade cfg now s).tgtGate
      pal := (runCrossfade cfg now s).pal
      fb := (runCrossfade cfg now s).fb } := rfl

/-- The frame that RUN leaves shows the palette that RUN leaves, unmasked (R160). -/
theorem runCrossfade_fb :
    (runCrossfade cfg now s).fb = (List.range s.cfg.numLeds).map (scrollPixel cfg.range false (runCrossfade cfg now s)) := rfl

/-- LED by LED, the frame that RUN leaves (R144, R160). -/
theorem runCrossfade_fb_getElem? {i : Nat} (hi : i < s.cfg.numLeds) :
    (runCrossfade cfg now s).fb[i]? = some
      (currentColour (runCrossfade cfg now s) (i / s.cfg.tileSize * (cfg.range.toNat / s.cfg.numTiles))) := by
  rw [runCrossfade_fb, List.getElem?_map, List.getElem?_range hi, Option.map_some, scrollPixel_eq, if_neg (by simp),
    runCrossfade_cfg, runCrossfade_offset]
  rfl

end

/-- Without the gate's firing, the target and the palette channel stay (R160). -/
theorem runCrossfade_keeps_target {cfg : ModeConfig} {now : BitVec 32} {s : State}
    (h : (gate s.tgtGate now s.cfg.targetPeriodMs).1 = false) :
    (runCrossfade cfg now s).tgtPal = s.tgtPal ∧ (runCrossfade cfg now s).pal = s.pal := by
  simp [h]

/-- Where the gate fires, the target is the next palette draw (R160). -/
theorem runCrossfade_draws_target {cfg : ModeConfig} {now : BitVec 32} {s : State}
    (h : (gate s.tgtGate now s.cfg.targetPeriodMs).1 = true) :
    (runCrossfade cfg now s).tgtPal = s.pal.draw.1 ∧ (runCrossfade cfg now s).pal = s.pal.draw.2 := by
  simp [h]

/-- Settles O23: RUN is `RunCrossfade`, whose elements are said one by one above. -/
theorem runCrossfadeResult : Obligations.RunCrossfadeResult := by
  intro s now h
  exact ⟨_, exec_run_crossfade h now, runCrossfade_eq_with _ now s, fun k _ c hc => channel_nudgePalette hc _ _ _ k,
    runCrossfade_tgtGate _ now s, runCrossfade_keeps_target, runCrossfade_draws_target, runCrossfade_fb_length _ now s,
    fun i => runCrossfade_fb_getElem? _ now s⟩

/-- RUN in a crossfade mode leaves it on and crossfading (R160). -/
theorem runsBy_runCrossfade {s : State} (h : runsBy s .crossfade) (cfg : ModeConfig) (now : BitVec 32) :
    runsBy (runCrossfade cfg now s) .crossfade := h

end Sys2Proof.Machine
end

section
/-! SUPPORT. Ticks without a new target: the crossfade converges (O25). -/

namespace Sys2Proof.Machine

open Sys2Proof.Spec

/-- What a run of commands that goes on did first, and then (R70). -/
theorem execAll_cons_inv {i : Instr} {rest : List Instr} {s t : State} (h : execAll (i :: rest) s = .next t) :
    ∃ u, exec i s = .next u ∧ execAll rest u = .next t := by
  rw [execAll] at h
  split at h
  · next u hu => exact ⟨u, hu, h⟩
  · cases h
  · cases h

/-- No command takes a palette request back (R13). -/
theorem pal_requests_le_of_exec {s t : State} {i : Instr} (h : exec i s = .next t) : s.pal.requests ≤ t.pal.requests := by
  by_cases hpal : t.pal = s.pal
  · rw [hpal]
  · obtain ⟨-, -, -, hreq⟩ | ⟨-, -, -, -, hreq⟩ := setmode_or_crossfade_of_pal_ne (commandEffect_of_exec h) hpal
    · omega
    · omega

theorem pal_requests_le_of_execAll {s t : State} {cmds : List Instr} (h : execAll cmds s = .next t) :
    s.pal.requests ≤ t.pal.requests := by
  induction cmds generalizing s with
  | nil => cases h; exact le_rfl
  | cons i rest ih =>
    obtain ⟨u, hexec, hrest⟩ := execAll_cons_inv h
    exact (pal_requests_le_of_exec hexec).trans (ih hrest)

/-- RUN that makes no palette request keeps the target (R160). -/
theorem runCrossfade_tgtPal_of_requests_le {cfg : ModeConfig} {now : BitVec 32} {s : State}
    (h : (runCrossfade cfg now s).pal.requests ≤ s.pal.requests) : (runCrossfade cfg now s).tgtPal = s.tgtPal := by
  cases hg : (gate s.tgtGate now s.cfg.targetPeriodMs).1 with
  | false => exact (runCrossfade_keeps_target hg).1
  | true =>
    have hreq : (runCrossfade cfg now s).pal.requests = s.pal.requests + 1 := by simp [hg]
    omega

/-- One tick takes the step off each channel's distance to the target (R160, R161). -/
theorem distance_runCrossfade {c : Rgb → Byte} (hc : c ∈ channels) (cfg : ModeConfig) (now : BitVec 32) (s : State) (k : Nat) :
    distance (c ((runCrossfade cfg now s).curPal.stop k)) (c (s.tgtPal.stop k)) =
      distance (c (s.curPal.stop k)) (c (s.tgtPal.stop k)) - cfg.step.toNat := by
  rw [runCrossfade_curPal, channel_nudgePalette hc, distance_nudge]

/-- Ticks that draw no palette keep the target, and `n` of them take `n` steps off each channel's distance to it, by induction on
the list: the requests never fall, so none of the ticks made one (R162). -/
theorem execAll_ticks_without_draw {s t : State} {nows : List (BitVec 32)} (h : runsBy s .crossfade)
    (hexec : execAll (ticks nows) s = .next t) (hreq : t.pal.requests = s.pal.requests) :
    t.tgtPal = s.tgtPal ∧ ∀ k, ∀ c ∈ channels, distance (c (t.curPal.stop k)) (c (s.tgtPal.stop k)) =
      distance (c (s.curPal.stop k)) (c (s.tgtPal.stop k)) - nows.length * s.modeCfg.step.toNat := by
  induction nows generalizing s with
  | nil => cases hexec; simp
  | cons now rest ih =>
    rw [execAll_ticks_cons h] at hexec
    have hle := pal_requests_le_of_execAll hexec
    have htgt := runCrossfade_tgtPal_of_requests_le (hle.trans hreq.le)
    have hge := pal_requests_le_of_exec (exec_run_crossfade h now)
    obtain ⟨htgt', hdist⟩ := ih (runsBy_runCrossfade h _ now) hexec (by omega)
    refine ⟨htgt'.trans htgt, fun k c hc => ?_⟩
    rw [← htgt, hdist k c hc, htgt, distance_runCrossfade hc, runCrossfade_modeCfg, List.length_cons, Nat.sub_sub,
      Nat.succ_mul, Nat.add_comm]

theorem rgb_eq_of_channels {a b : Rgb} (h : ∀ c ∈ channels, c a = c b) : a = b := by
  simp only [channels, List.forall_mem_cons] at h
  obtain ⟨hr, hg, hb, -⟩ := h
  calc a = ⟨a.r, a.g, a.b⟩ := rfl
    _ = ⟨b.r, b.g, b.b⟩ := by rw [hr, hg, hb]

/-- Palettes whose channels are all at distance 0 are equal. -/
theorem palette_eq_of_distance_eq_zero {p q : Palette}
    (h : ∀ k, ∀ c ∈ channels, distance (c (p.stop k)) (c (q.stop k)) = 0) : p = q :=
  Palette.eq_of_stops fun k _ => rgb_eq_of_channels fun c hc => eq_of_distance_eq_zero (h k c hc)

/-- A palette at its target stays there (R162). -/
@[simp] theorem nudgePalette_self (step : Nat) (p : Palette) : nudgePalette step p p = p :=
  palette_eq_of_distance_eq_zero fun k c hc => by simp [channel_nudgePalette hc, distance]

/-- Settles O25: (a) by the induction above, no distance being above 255; (b) since a nudge at the target does nothing. -/
theorem crossfadeConverges : Obligations.CrossfadeConverges := by
  refine ⟨fun s t nows h hexec hreq => ?_, fun s t now h heq hexec => ?_⟩
  · obtain ⟨htgt, hdist⟩ := execAll_ticks_without_draw h hexec hreq
    refine ⟨htgt, fun k _ c hc => (hdist k c hc).le, fun hfar => palette_eq_of_distance_eq_zero fun k c hc => ?_⟩
    rw [htgt, hdist k c hc]
    exact Nat.sub_eq_zero_of_le ((distance_le _ _).trans hfar)
  · cases (exec_run_crossfade h now).symm.trans hexec
    rw [runCrossfade_curPal, ← heq, nudgePalette_self]

end Sys2Proof.Machine
end

section
/-! SUPPORT. The time of the first new target (O26). -/

namespace Sys2Proof.Machine

open Sys2Proof.Spec

/-- `t` crossfades like `s`, with the target, the palette channel and the parameters of `s`. -/
structure SameTarget (s t : State) : Prop where
  running : runsBy t .crossfade
  cfg : t.cfg = s.cfg
  tgtPal : t.tgtPal = s.tgtPal
  pal : t.pal = s.pal

theorem SameTarget.trans {s t u : State} (h : SameTarget s t) (h' : SameTarget t u) : SameTarget s u :=
  ⟨h'.running, h'.cfg.trans h.cfg, h'.tgtPal.trans h.tgtPal, h'.pal.trans h.pal⟩

/-- A tick whose gate does not fire keeps the target (R160). -/
theorem sameTarget_runCrossfade {s : State} (h : runsBy s .crossfade) {now : BitVec 32}
    (hg : (gate s.tgtGate now s.cfg.targetPeriodMs).1 = false) : SameTarget s (runCrossfade s.modeCfg now s) := by
  obtain ⟨htgt, hpal⟩ := runCrossfade_keeps_target (cfg := s.modeCfg) hg
  exact ⟨runsBy_runCrossfade h _ now, runCrossfade_cfg _ now s, htgt, hpal⟩

/-- Ticks sooner than the period after the gate's timestamp keep the target and the gate, by induction on the list (R142, R163). -/
theorem execAll_ticks_waiting {s : State} {waits : List (BitVec 32)} (h : runsBy s .crossfade) (harmed : s.tgtGate.armed = true)
    (hwaits : ∀ w ∈ waits, (w.toNat + 2 ^ 32 - s.tgtGate.last.toNat) % 2 ^ 32 < s.cfg.targetPeriodMs.toNat) :
    ∃ u, execAll (ticks waits) s = .next u ∧ SameTarget s u ∧ u.tgtGate = s.tgtGate := by
  induction waits generalizing s with
  | nil => exact ⟨s, rfl, ⟨h, rfl, rfl, rfl⟩, rfl⟩
  | cons w rest ih =>
    obtain ⟨hw, hrest⟩ := List.forall_mem_cons.mp hwaits
    have hg : gate s.tgtGate w s.cfg.targetPeriodMs = (false, s.tgtGate) :=
      gate_waits _ w _ harmed (by rwa [toNat_sub_clock])
    have hsame : SameTarget s (runCrossfade s.modeCfg w s) := sameTarget_runCrossfade h (by rw [hg])
    have hgate : (runCrossfade s.modeCfg w s).tgtGate = s.tgtGate := by rw [runCrossfade_tgtGate, hg]
    obtain ⟨u, hexec, hu, hgate'⟩ := ih hsame.running (by rwa [hgate]) (by rwa [hgate, hsame.cfg])
    exact ⟨u, (execAll_ticks_cons h w rest).trans hexec, hsame.trans hu, hgate'.trans hgate⟩

/-- The first tick of a crossfade mode arms the gate with its `now` and keeps the target; the ticks sooner than the period after it
keep both (R163). -/
theorem execAll_ticks_until_target {s : State} {n₀ : BitVec 32} {waits : List (BitVec 32)} (h : runsBy s .crossfade)
    (hunarmed : s.tgtGate.armed = false)
    (hwaits : ∀ w ∈ waits, (w.toNat + 2 ^ 32 - n₀.toNat) % 2 ^ 32 < s.cfg.targetPeriodMs.toNat) :
    ∃ u, execAll (ticks (n₀ :: waits)) s = .next u ∧ SameTarget s u ∧ u.tgtGate = { last := n₀, armed := true } := by
  have hg := gate_unarmed s.tgtGate n₀ s.cfg.targetPeriodMs hunarmed
  have hsame : SameTarget s (runCrossfade s.modeCfg n₀ s) := sameTarget_runCrossfade h (by rw [hg])
  have hgate : (runCrossfade s.modeCfg n₀ s).tgtGate = { last := n₀, armed := true } := by rw [runCrossfade_tgtGate, hg]
  obtain ⟨u, hexec, hu, hgate'⟩ := execAll_ticks_waiting (waits := waits) hsame.running (by rw [hgate])
    (by rwa [hgate, hsame.cfg])
  exact ⟨u, (execAll_ticks_cons h n₀ waits).trans hexec, hsame.trans hu, hgate'.trans hgate⟩

/-- After SETMODE, while on, RUN renders by the strategy of the mode entered (R125). -/
theorem runsBy_enterMode {s : State} {m : Mode} {g : Strategy} (hon : s.on = true)
    (hg : (s.cfg.modeTable.config m).strategy = g) : runsBy (enterMode m s) g := ⟨hon, hg⟩

/-- Settles O26: SETMODE disarms the gate, the first tick arms it, the ticks after it wait; the next one fires exactly if the period is
over. -/
theorem firstNewTargetWaitsForThePeriod : Obligations.FirstNewTargetWaitsForThePeriod := by
  intro s md n₀ waits n₁ hon hcrossfade hwaits
  obtain ⟨u, hexec, hsame, hgate⟩ :=
    execAll_ticks_until_target (s := enterMode md s) (runsBy_enterMode hon hcrossfade) rfl hwaits
  have hcfg : u.cfg = s.cfg := hsame.cfg
  refine ⟨_, u, _, exec_setmode_code md s, hexec, exec_run_crossfade hsame.running n₁, hsame.tgtPal, hsame.pal, hgate,
    fun hover => ?_, fun hsoon => ?_⟩
  · have hfires : gate u.tgtGate n₁ u.cfg.targetPeriodMs = (true, { last := n₁, armed := true }) :=
      gate_fires _ n₁ _ (by rw [hgate]) (by rwa [toNat_sub_clock, hgate, hcfg])
    obtain ⟨htgt, hpal⟩ := runCrossfade_draws_target (cfg := u.modeCfg) (congrArg Prod.fst hfires)
    exact ⟨htgt, hpal, by rw [hpal, PaletteChannel.draw_requests]⟩
  · have hsooner : gate u.tgtGate n₁ u.cfg.targetPeriodMs = (false, u.tgtGate) :=
      gate_waits _ n₁ _ (by rw [hgate]) (by rwa [toNat_sub_clock, hgate, hcfg])
    obtain ⟨htgt, hpal⟩ := runCrossfade_keeps_target (cfg := u.modeCfg) (congrArg Prod.fst hsooner)
    exact ⟨htgt.trans hsame.tgtPal, hpal.trans hsame.pal⟩

end Sys2Proof.Machine
end

section
/-! SUPPORT. The arithmetic of the heat field as numbers (O32, R177), the two diffusion kernels (O29, O30), the cooling bound (O35) and
the heat map (O33). -/

namespace Sys2Proof.Machine

theorem cellHeat_le {h : List Byte} {m : Nat} (hm : ∀ v ∈ h, v.toNat ≤ m) (k : Nat) : cellHeat h k ≤ m := by
  unfold cellHeat
  rw [List.getD_eq_getElem?_getD]
  by_cases hk : k < h.length
  · rw [List.getElem?_eq_getElem hk]
    exact hm _ (List.getElem_mem hk)
  · simp [List.getElem?_eq_none (Nat.not_lt.mp hk)]

theorem cellHeat_le_255 (h : List Byte) (k : Nat) : cellHeat h k ≤ 255 :=
  cellHeat_le (fun v _ => Nat.le_of_lt_succ v.isLt) k

/-- A fine value is a weighted average with the weights present as divisor, so it is at most the hottest cell (R174, R177). -/
theorem fineHeat_le {h : List Byte} {m : Nat} (hm : ∀ v ∈ h, v.toNat ≤ m) (k : Nat) : fineHeat h k ≤ m := by
  have hcell := cellHeat_le hm
  match k with
  | 0 => exact hcell 0
  | 1 =>
    have h₀ := hcell 0
    have h₁ := hcell 1
    rw [fineHeat]
    omega
  | 2 =>
    have h₀ := hcell 0
    have h₁ := hcell 1
    have h₂ := hcell 2
    rw [fineHeat]
    omega
  | k + 3 =>
    have h₀ := hcell k
    have h₁ := hcell (k + 1)
    have h₂ := hcell (k + 2)
    have h₃ := hcell (k + 3)
    rw [fineHeat]
    omega

theorem newHeat_coarse_toNat (h : List Byte) (k : Nat) : (newHeat .coarse h k).toNat = min (coarseHeat h k) 255 :=
  clamp8_toNat _

/-- No clamp acts on a fine value (R174). -/
theorem newHeat_fine_toNat (h : List Byte) (k : Nat) : (newHeat .fine h k).toNat = fineHeat h k :=
  (clamp8_toNat _).trans (Nat.min_eq_left (fineHeat_le (fun v _ => Nat.le_of_lt_succ v.isLt) k))

/-- Settles O32: the two saturating operations and the two kernels, read as numbers. -/
theorem heatArithmeticNeverWraps : Obligations.HeatArithmeticNeverWraps := by
  refine ⟨fun a d => ?_, satAdd8_toNat, newHeat_coarse_toNat, fun h k m hm => ⟨newHeat_fine_toNat h k, fineHeat_le hm k⟩⟩
  rw [satSub8_toNat]
  omega

/-- Cell 0 has no downward neighbour and keeps its value, in both grains (R173, R174). -/
theorem newHeat_zero (g : FireGrain) (h : List Byte) : newHeat g h 0 = h.getD 0 0 := by
  apply BitVec.eq_of_toNat_eq
  cases g with
  | coarse => rw [newHeat_coarse_toNat]; exact Nat.min_eq_left (cellHeat_le_255 h 0)
  | fine => exact newHeat_fine_toNat h 0

theorem some_newHeat_zero (g : FireGrain) {h : List Byte} (hh : 0 < h.length) : some (newHeat g h 0) = h[0]? := by
  rw [newHeat_zero, List.getD_eq_getElem _ _ hh, List.getElem?_eq_getElem hh]

/-- Cell 1 lacks the neighbour of weight 1, so the clamp does not act (R173). -/
theorem newHeat_coarse_one (h : List Byte) : (newHeat .coarse h 1).toNat = (2 * cellHeat h 1 + 2 * cellHeat h 0) / 4 := by
  have h₀ := cellHeat_le_255 h 0
  have h₁ := cellHeat_le_255 h 1
  rw [newHeat_coarse_toNat, coarseHeat]
  omega

theorem newHeat_coarse_add_two (h : List Byte) (k : Nat) : (newHeat .coarse h (k + 2)).toNat =
    min ((2 * cellHeat h (k + 2) + 2 * cellHeat h (k + 1) + cellHeat h k) / 4) 255 := by
  rw [newHeat_coarse_toNat, coarseHeat, min_assoc, min_self]

/-- Settles O29: cell by cell, the value that `NewValue` gives. -/
theorem coarseDiffusionKernel : Obligations.CoarseDiffusionKernel := by
  refine fun h => ⟨diffuse_length _ h, fun k hk => ⟨_, diffuse_getElem? _ h k hk, ?_, ?_, fun hge => ?_⟩⟩
  · rintro rfl
    exact some_newHeat_zero _ hk
  · rintro rfl
    exact newHeat_coarse_one h
  · obtain ⟨j, rfl⟩ := Nat.exists_eq_add_of_le' hge
    rw [Nat.one_mul]
    exact newHeat_coarse_add_two h j

/-- Settles O30: cell by cell, the value that `NewValue` gives, on which no clamp acts. -/
theorem fineDiffusionKernel : Obligations.FineDiffusionKernel := by
  refine fun h => ⟨diffuse_length _ h, fun k hk => ⟨_, diffuse_getElem? _ h k hk, ?_, ?_, ?_, fun hge => ?_⟩⟩
  · rintro rfl
    exact some_newHeat_zero _ hk
  · rintro rfl
    exact newHeat_fine_toNat h 1
  · rintro rfl
    exact newHeat_fine_toNat h 2
  · obtain ⟨j, rfl⟩ := Nat.exists_eq_add_of_le' hge
    rw [Nat.one_mul]
    exact newHeat_fine_toNat h (j + 3)

/-- Legal parameters give at least one cell, since its spark zone is not empty (R5, R6). -/
theorem cellCount_pos (p : LegalParams) : 1 ≤ p.val.cellCount := by
  obtain ⟨-, -, -, -, hzone, hcells, -⟩ := p.property
  exact hzone.trans hcells

/-- Settles O35: `COOLING` is a byte and `CellCount` at least 1. -/
theorem coolingBoundIsBetween2And2552 : Obligations.CoolingBoundIsBetween2And2552 := by
  intro p
  have hcooling := p.val.cooling.isLt
  have hdiv : p.val.cooling.toNat * 10 / p.val.cellCount ≤ p.val.cooling.toNat * 10 := Nat.div_le_self _ _
  obtain ⟨htiles, -⟩ := p.property
  refine ⟨rfl, Nat.le_add_left 2 _, ?_, cellCount_pos p, htiles⟩
  rw [coolingBound]
  omega

/-- Settles O33: the map as a number, and index 240 as the index of stop 15. -/
theorem heatMapReachesExactly240 : Obligations.HeatMapReachesExactly240 := by
  refine ⟨rfl, rfl, fun t => ⟨heatIndex_toNat t, ?_⟩, fun t u htu => ?_, fun p t ht => ?_⟩
  · have := t.isLt
    rw [heatIndex_toNat]
    omega
  · rw [heatIndex_toNat, heatIndex_toNat]
    exact Nat.div_le_div_right (Nat.mul_le_mul_right 240 htu)
  · rw [ht]
    exact sampleLinear_at_stop p (k := 15) (by decide)

end Sys2Proof.Machine
end

section
/-! SUPPORT. Diffusion in place, cell by cell (O31). -/

namespace Sys2Proof.Machine

/-- `NewValue` reads the cell and those below it only (R175). -/
theorem newHeat_congr (g : FireGrain) {h h' : List Byte} {k : Nat} (hle : ∀ j ≤ k, h[j]? = h'[j]?) :
    newHeat g h k = newHeat g h' k := by
  have hcell : ∀ j ≤ k, cellHeat h j = cellHeat h' j := fun j hj => by
    simp only [cellHeat, List.getD_eq_getElem?_getD, hle j hj]
  have hcoarse : coarseHeat h k = coarseHeat h' k := by
    match k with
    | 0 | 1 | k + 2 => simp [coarseHeat, hcell]
  have hfine : fineHeat h k = fineHeat h' k := by
    match k with
    | 0 | 1 | 2 | k + 3 => simp [fineHeat, hcell]
  cases g with
  | coarse => exact congrArg clamp8 hcoarse
  | fine => exact congrArg clamp8 hfine

/-- One cell replaced in place: `HEAT[k] <- NewValue(HEAT, k)`. -/
def diffuseInPlace (g : FireGrain) (cur : List Byte) (k : Nat) : List Byte := cur.set k (newHeat g cur k)

/-- Cells `n - 1` down to 0 replaced in place: each of them gets the new value of the field as it stood, by induction on `n`, since
the first one replaced is above all those still to be (R175). -/
theorem foldl_diffuseInPlace_getElem? (g : FireGrain) (n : Nat) (h : List Byte) (k : Nat) :
    ((List.range n).reverse.foldl (diffuseInPlace g) h)[k]? =
      if k < n then h[k]?.map fun _ => newHeat g h k else h[k]? := by
  induction n generalizing h with
  | zero => rfl
  | succ n ih =>
    rw [List.range_succ, List.reverse_append, List.reverse_singleton, List.singleton_append, List.foldl_cons, ih]
    rcases Nat.lt_trichotomy k n with hlt | rfl | hgt
    · have hbelow : ∀ j ≤ k, (diffuseInPlace g h n)[j]? = h[j]? := fun j hj => List.getElem?_set_ne (by omega)
      rw [if_pos hlt, if_pos (by omega), hbelow k le_rfl, newHeat_congr g hbelow]
    · rw [if_neg (Nat.lt_irrefl k), if_pos (Nat.lt_succ_self k)]
      exact List.getElem?_set_self'
    · rw [if_neg (by omega), if_neg (by omega)]
      exact List.getElem?_set_ne (by omega)

/-- In place from the top down is the simultaneous diffusion (R175). -/
theorem foldl_diffuseInPlace_eq_diffuse (g : FireGrain) (h : List Byte) :
    (List.range h.length).reverse.foldl (diffuseInPlace g) h = diffuse g h := by
  apply List.ext_getElem?
  intro k
  rw [foldl_diffuseInPlace_getElem?]
  by_cases hk : k < h.length
  · rw [if_pos hk, diffuse_getElem? g h k hk, List.getElem?_eq_getElem hk, Option.map_some]
  · have hout := Nat.not_lt.mp hk
    rw [if_neg hk, List.getElem?_eq_none hout, List.getElem?_eq_none ((diffuse_length g h).trans_le hout)]

/-- Settles O31: the induction above, and a hot bottom cell, whose heat an ascending update passes on twice in one tick. -/
theorem descendingInPlaceDiffusionAgrees : Obligations.DescendingInPlaceDiffusionAgrees :=
  ⟨diffuse_getElem?, foldl_diffuseInPlace_eq_diffuse, fun g => ⟨[255, 0, 0], by cases g <;> decide⟩⟩

end Sys2Proof.Machine
end

section
/-! SUPPORT. Who changes the heat field (O34). -/

namespace Sys2Proof.Machine

open Sys2Proof.Spec

@[simp] theorem enterMode_heat (m : Mode) (s : State) : (enterMode m s).heat = List.replicate s.cfg.cellCount 0 := rfl

/-- OFF, ON and RUN while off keep the heat field: none of them is a SETMODE or a RUN in a fire mode (R179). -/
theorem heat_kept_of_off_on_runOff {s t : State} {i : Instr} (e : CommandEffect s i t)
    (h : i = .off ∨ i = .on ∨ ((∃ now, i = .run now) ∧ s.on = false)) : t.heat = s.heat := by
  by_contra hne
  obtain ⟨m, rfl, -⟩ | ⟨now, rfl, hon, -⟩ := setmode_or_fire_of_heat_ne e hne
  · simp at h
  · simp [hon] at h

/-- Settles O34: by the inversion of `exec`, and `enterMode` for an admitted SETMODE. -/
theorem heatPersistsOutsideFire : Obligations.HeatPersistsOutsideFire := by
  refine ⟨fun s t i h hne => (setmode_or_fire_of_heat_ne (commandEffect_of_exec h) hne).symm, fun s m hm => ?_,
    fun s t i h => heat_kept_of_off_on_runOff (commandEffect_of_exec h)⟩
  obtain ⟨md, -, hexec⟩ := exec_setmode_admitted hm s
  exact ⟨_, hexec, enterMode_heat md s⟩

end Sys2Proof.Machine
end

section
/-! SUPPORT. The draws of a fire tick in request order (O28). -/

namespace Sys2Proof.Machine

open Sys2Proof.Spec

/-- The channel `c`, asked for these bounds, gave these values and is `c'` afterwards: the values are the listed answers as far as those
go (R12, log entry 4). -/
structure Draws (bounds values : List Nat) (c c' : RandomChannel) : Prop where
  requests : c'.requests = c.requests ++ bounds
  answers : c'.answers = c.answers.drop values.length
  listed : ∀ (j : Nat) (a : BitVec 16) (v : Nat), c.answers[j]? = some a → values[j]? = some v → v = a.toNat

theorem Draws.nil (c : RandomChannel) : Draws [] [] c c :=
  ⟨(List.append_nil _).symm, rfl, fun _ _ _ _ h => by simp at h⟩

/-- Draws after draws: the second ones take the answers that the first ones left. -/
theorem Draws.append {bs bs' vs vs' : List Nat} {c c₁ c₂ : RandomChannel} (d : Draws bs vs c c₁) (d' : Draws bs' vs' c₁ c₂) :
    Draws (bs ++ bs') (vs ++ vs') c c₂ where
  requests := by rw [d'.requests, d.requests, List.append_assoc]
  answers := by rw [d'.answers, d.answers, List.drop_drop, List.length_append]
  listed j a v ha hv := by
    by_cases hj : j < vs.length
    · rw [List.getElem?_append_left hj] at hv
      exact d.listed j a v ha hv
    · have hle := Nat.not_lt.mp hj
      rw [List.getElem?_append_right hle] at hv
      refine d'.listed (j - vs.length) a v ?_ hv
      rw [d.answers, List.getElem?_drop, Nat.add_sub_cancel' hle, ha]

/-- One call of `Rand` (R12). -/
theorem Draws.of_draw {n v : Nat} {c c' : RandomChannel} (hn : 1 ≤ n) (h : c.draw n = some (v, c')) :
    v < n ∧ Draws [n] [v] c c' := by
  obtain ⟨hlt, hreq, hans, hhead⟩ := RandomChannel.draw_spec hn h
  refine ⟨hlt, hreq, hans, fun j a w ha hw => ?_⟩
  cases j with
  | zero =>
    obtain rfl : v = w := by simpa using hw
    exact (hhead a (by rw [List.head?_eq_getElem?]; exact ha)).symm
  | succ j => simp at hw

/-- `Cool` takes one draw below `cmax` off each cell, in ascending order (R172). -/
theorem cool_draws {cmax : Nat} {h h' : List Byte} {c c' : RandomChannel} (hc : 1 ≤ cmax) (e : cool cmax h c = some (h', c')) :
    ∃ ds : List Nat, ds.length = h.length ∧ (∀ d ∈ ds, d < cmax) ∧ h' = List.zipWith satSub8 h ds ∧
      Draws (List.replicate h.length cmax) ds c c' := by
  induction h generalizing c h' with
  | nil =>
    cases e
    exact ⟨[], rfl, by simp, rfl, Draws.nil _⟩
  | cons x rest ih =>
    rw [cool] at e
    split at e
    · cases e
    · next d c₁ hdraw =>
      split at e
      · cases e
      · next cooled c₂ hrest =>
        cases e
        obtain ⟨hlt, hd⟩ := Draws.of_draw hc hdraw
        obtain ⟨ds, hlen, hbelow, rfl, hds⟩ := ih hrest
        exact ⟨d :: ds, congrArg (· + 1) hlen, List.forall_mem_cons.mpr ⟨hlt, hbelow⟩, rfl, hd.append hds⟩

/-- A spark attempt makes legal draws and does with them what R176 says. -/
theorem spark_draws {sp zone : Nat} {h h' : List Byte} {c c' : RandomChannel} (hz : 1 ≤ zone)
    (e : spark sp zone h c = some (h', c')) :
    ∃ d : SparkDraws, d.Legal sp zone ∧ h' = d.apply h ∧ Draws (d.bounds zone) d.values c c' := by
  obtain ⟨r, c₁, hr, ⟨hmiss, rfl, rfl⟩ | ⟨hfire, y, c₂, v, hy, hv, rfl⟩⟩ := spark_cases e
  · obtain ⟨hr', hd⟩ := Draws.of_draw (by decide) hr
    exact ⟨⟨r, none⟩, ⟨hr', hmiss⟩, rfl, hd⟩
  · obtain ⟨hr', hdr⟩ := Draws.of_draw (by decide) hr
    obtain ⟨hy', hdy⟩ := Draws.of_draw hz hy
    obtain ⟨hv', hdv⟩ := Draws.of_draw (by decide) hv
    exact ⟨⟨r, some (y, v)⟩, ⟨hr', hfire, hy', hv'⟩, rfl, hdr.append (hdy.append hdv)⟩

/-- `Ignite` is its spark attempts one after another (R176). -/
theorem ignite_draws {sp zone n : Nat} {h h' : List Byte} {c c' : RandomChannel} (hz : 1 ≤ zone)
    (e : ignite sp zone n h c = some (h', c')) :
    ∃ sparks : List SparkDraws, sparks.length = n ∧ (∀ d ∈ sparks, d.Legal sp zone) ∧
      h' = sparks.foldl SparkDraws.apply h ∧
      Draws (sparks.flatMap (SparkDraws.bounds zone)) (sparks.flatMap SparkDraws.values) c c' := by
  induction n generalizing h c with
  | zero =>
    cases e
    exact ⟨[], rfl, by simp, rfl, Draws.nil _⟩
  | succ n ih =>
    rw [ignite] at e
    split at e
    · cases e
    · next h₁ c₁ hspark =>
      obtain ⟨d, hlegal, rfl, hd⟩ := spark_draws hz hspark
      obtain ⟨ds, hlen, hlegals, rfl, hds⟩ := ih e
      exact ⟨d :: ds, congrArg (· + 1) hlen, List.forall_mem_cons.mpr ⟨hlegal, hlegals⟩, rfl, hd.append hds⟩

/-- A fire tick as its draws: those of `Cool`, then those of `Ignite` on the diffused field (R170). -/
theorem fireHeat_draws {p : Params} {h h' : List Byte} {c c' : RandomChannel} (hz : 1 ≤ p.sparkZone)
    (e : fireHeat p h c = some (h', c')) :
    ∃ (ds : List Nat) (sparks : List SparkDraws), ds.length = h.length ∧ (∀ d ∈ ds, d < coolingBound p) ∧
      sparks.length = p.numSparks ∧ (∀ d ∈ sparks, d.Legal p.sparking.toNat p.sparkZone) ∧
      h' = sparks.foldl SparkDraws.apply (diffuse p.fireGrain (List.zipWith satSub8 h ds)) ∧
      Draws (List.replicate h.length (coolingBound p) ++ sparks.flatMap (SparkDraws.bounds p.sparkZone))
        (ds ++ sparks.flatMap SparkDraws.values) c c' := by
  obtain ⟨cooled, c₁, hcool, hignite⟩ := fireHeat_cases e
  obtain ⟨ds, hdlen, hbelow, rfl, hds⟩ := cool_draws (coolingBound_pos p) hcool
  obtain ⟨sparks, hslen, hlegal, rfl, hsparks⟩ := ignite_draws hz hignite
  exact ⟨ds, sparks, hdlen, hbelow, hslen, hlegal, rfl, hds.append hsparks⟩

/-- RUN in a fire mode that goes on leaves the heat field and the channel of `fireHeat`, rendered (R140, R170). -/
theorem exec_run_fire_inv {s t : State} {now : BitVec 32} (h : runsBy s .fire) (hexec : exec (.run now) s = .next t) :
    ∃ heat rnd, fireHeat s.cfg s.heat s.rnd = some (heat, rnd) ∧ t = heatRender { s with heat := heat, rnd := rnd } := by
  obtain ⟨hon, hfire⟩ := h
  cases commandEffect_of_exec hexec with
  | runOff now off => simp [hon] at off
  | runScroll now running => simp [runsBy, hfire] at running
  | runCrossfade now running => simp [runsBy, hfire] at running
  | runFire now running heat rnd drawn => exact ⟨heat, rnd, drawn, rfl⟩

/-- The colour of a temperature: the sample of the current palette at its index (R178). -/
theorem sampleCurrent_heatIndex (s : State) (t : Byte) : s.sampleCurrent (heatIndex t) = currentColour s (t.toNat * 240 / 255) := by
  have hindex : heatIndex t = BitVec.ofNat 8 (t.toNat * 240 / 255 % 256) := by
    apply BitVec.eq_of_toNat_eq
    rw [heatIndex, BitVec.toNat_ofNat, BitVec.toNat_ofNat, Nat.mod_mod]
  rw [hindex]
  rfl

/-- LED by LED, the frame of the heat renderer (R178). -/
theorem heatRender_fb_getElem? (s : State) {i : Nat} (hi : i < s.cfg.numLeds) :
    (heatRender s).fb[i]? = some (currentColour s ((s.heat.getD (cellOfLed s.cfg i) 0).toNat * 240 / 255)) := by
  rw [← sampleCurrent_heatIndex, heatRender, writeFrame_fb, List.getElem?_map, List.getElem?_range hi]
  rfl

/-- Settles O28: RUN renders what `fireHeat` leaves, and `fireHeat` is its draws. -/
theorem fireTickFollowsItsDraws : Obligations.FireTickFollowsItsDraws := by
  intro s t now hwf hfire hexec
  obtain ⟨heat, rnd, hdrawn, rfl⟩ := exec_run_fire_inv hfire hexec
  obtain ⟨-, -, -, -, hzone, -, -⟩ := s.params.property
  obtain ⟨ds, sparks, hdlen, hbelow, hslen, hlegal, hheat, hdraws⟩ := fireHeat_draws hzone hdrawn
  obtain ⟨-, hcells⟩ := (Memory.wf_iff s).mp hwf
  rw [hcells] at hdlen hdraws
  exact ⟨rfl, ds, sparks, hdlen, hbelow, hslen, hlegal, hheat, hdraws.requests, hdraws.answers, hdraws.listed,
    heatRender_fb_length _, fun i => heatRender_fb_getElem? { s with heat := heat, rnd := rnd }⟩

end Sys2Proof.Machine
end

section
/-! SUPPORT. Who emits a log event (O16). -/

namespace Sys2Proof.Machine

/-- An admitted SETMODE emits its mode's code (R125, R203). -/
@[simp] theorem enterMode_logOut (m : Mode) (s : State) : (enterMode m s).logOut = s.logOut ++ [m.code] := rfl

/-- No command but SETMODE emits a log event (R203). -/
theorem logOut_kept_or_setmode {s t : State} {i : Instr} (e : CommandEffect s i t) :
    t.logOut = s.logOut ∨ ∃ m, i = .setmode m := by
  cases e with
  | enterMode m => exact .inr ⟨m.code, rfl⟩
  | _ => exact .inl (by simp)

/-- SETMODE emits its operand if that is admitted, and nothing if it raises `InvalidMode` (R203). -/
theorem logOut_of_setmode {s t : State} {m : Byte} (e : CommandEffect s (.setmode m) t) :
    t.logOut = if m.toNat ≤ 8 then s.logOut ++ [m] else s.logOut := by
  cases e with
  | enterMode md => rw [if_pos (Mode.code_toNat_le md), enterMode_logOut]
  | invalidMode _ reserved => rw [if_neg (Nat.not_le.mpr ((Mode.ofCode_eq_none m).mp reserved))]

/-- Settles O16: by the inversion of `exec` for the commands; a step without a command word is a reset or a sink read. -/
theorem onlyASuccessfulSetmodeLogs : Obligations.OnlyASuccessfulSetmodeLogs := by
  refine ⟨fun s t i hexec notSetmode => ?_, fun s t m hexec => logOut_of_setmode (commandEffect_of_exec hexec),
    fun s t i rest hin notCommand hstep => ?_⟩
  · exact (logOut_kept_or_setmode (commandEffect_of_exec hexec)).resolve_right fun ⟨m, hm⟩ => notSetmode m hm
  · rw [step_cons hin] at hstep
    cases i with
    | command w => exact absurd rfl (notCommand w)
    | reset | sinkRead => cases hstep; rfl

end Sys2Proof.Machine
end

section
/-! SUPPORT. A word that sets an error flag changes nothing else (O47). -/

namespace Sys2Proof.Machine

/-- A command that changes `ERR_MODE` sets it and changes nothing else (R191, R193). -/
theorem eq_with_errMode_of_errMode_ne {s t : State} {i : Instr} (e : CommandEffect s i t) (h : t.errMode ≠ s.errMode) :
    t = { s with errMode := true } := by
  cases e with
  | invalidMode => rfl
  | _ => exact absurd (by simp) h

/-- Settles O47: a word the decoder rejects can change `ERR_CMD` only, a word that decodes `ERR_MODE` only. -/
theorem errorsChangeOnlyTheirFlag : Obligations.ErrorsChangeOnlyTheirFlag := by
  intro s t w rest hin hstep
  cases hd : decode w with
  | error reject =>
    cases (raisesBadCommand_of_decode_error hd s rest hin).symm.trans hstep
    exact ⟨fun _ => rfl, fun hne => absurd rfl hne⟩
  | ok i =>
    have e := commandEffect_of_exec ((step_of_decode_ok hin hd).symm.trans hstep)
    exact ⟨fun hne => absurd (errCmd_kept e) hne, eq_with_errMode_of_errMode_ne e⟩

end Sys2Proof.Machine
end

section
/-! SUPPORT. Only the gates read the timestamp: RUN in the modes that evaluate none (O36). -/

namespace Sys2Proof.Machine

open Sys2Proof.Spec

/-- In a fire mode that is on, RUN is `RunFire`, which is given no timestamp (R140, R170). -/
theorem exec_run_fire {s : State} (h : runsBy s .fire) (now : BitVec 32) : exec (.run now) s = runFire s := by
  obtain ⟨hon, hfire⟩ := h
  simp [exec, execRun, hon, hfire]

/-- Without the mask, RUN in `SCROLL` moves the offset and renders, and evaluates no gate (R143). -/
theorem runScroll_unmasked {cfg : ModeConfig} (unmasked : cfg.masked = false) (now : BitVec 32) (s : State) :
    runScroll cfg now s = scrollRender cfg.range false (advanceOffset cfg.delta s) := by
  simp [runScroll, unmasked]

/-- Settles O36: while off, in an unmasked scroll mode and in a fire mode, what RUN comes to does not mention the timestamp. -/
theorem gatelessModesIgnoreTheTimestamp : Obligations.GatelessModesIgnoreTheTimestamp := by
  intro s a b gateless
  cases hon : s.on with
  | false => rw [exec_run_off hon a, exec_run_off hon b]
  | true =>
    obtain hoff | ⟨hscroll, unmasked⟩ | hfire := gateless
    · simp [hon] at hoff
    · rw [exec_run_scroll ⟨hon, hscroll⟩ a, exec_run_scroll ⟨hon, hscroll⟩ b, runScroll_unmasked unmasked a,
        runScroll_unmasked unmasked b]
    · rw [exec_run_fire ⟨hon, hfire⟩ a, exec_run_fire ⟨hon, hfire⟩ b]

end Sys2Proof.Machine
end

section
/-! SUPPORT. The invariant, operation by operation, and then through commands, reset and steps (O55, O56). -/

namespace Sys2Proof.Machine

open Sys2Proof.Spec

/-! Legal parameters bound every request of the random source (R5, R6, R42). -/

/-- Every tile has at least one LED, so there are at most `NumLeds` cells, and those are at most 65535 (R5, R6). -/
theorem cellCount_le (p : LegalParams) : p.val.cellCount ≤ 65535 := by
  obtain ⟨-, hsize, hleds, -⟩ := p.property
  unfold Params.cellCount
  split
  · exact (Nat.le_mul_of_pos_right _ hsize).trans hleds
  · exact hleds

/-- The bounds that a spark attempt asks for are ones the channel can carry (R42, R176). -/
theorem sparkDraws_bounds_carried {zone : Nat} (hz : 1 ≤ zone ∧ zone ≤ 65535) (d : SparkDraws) :
    ∀ n ∈ d.bounds zone, 1 ≤ n ∧ n ≤ 65535 := by
  unfold SparkDraws.bounds
  split <;> simp [hz]

/-- The bounds that a fire tick asks for are ones the channel can carry (R42, R172, R176). -/
theorem fireHeat_requests_carried {p : LegalParams} {h h' : List Byte} {c c' : RandomChannel}
    (e : fireHeat p.val h c = some (h', c')) (hc : ∀ n ∈ c.requests, 1 ≤ n ∧ n ≤ 65535) :
    ∀ n ∈ c'.requests, 1 ≤ n ∧ n ≤ 65535 := by
  obtain ⟨-, -, -, -, hzone, hcells, -⟩ := p.property
  obtain ⟨-, hcool, hcool', -, -⟩ := coolingBoundIsBetween2And2552 p
  obtain ⟨ds, sparks, -, -, -, -, -, hdraws⟩ := fireHeat_draws hzone e
  intro n hn
  rw [hdraws.requests, List.mem_append, List.mem_append, List.mem_flatMap] at hn
  obtain hold | hcooling | ⟨d, -, hspark⟩ := hn
  · exact hc n hold
  · obtain rfl := List.eq_of_mem_replicate hcooling
    omega
  · exact sparkDraws_bounds_carried ⟨hzone, hcells.trans (cellCount_le p)⟩ d n hspark

/-- `Resolve` of a catalog palette gives that palette twice (R126). -/
theorem resolve_palettes_of_catalog {cat : Catalog} {choice : PaletteChoice} {id : PaletteId} (h : choice = .catalog id)
    (pal : PaletteChannel) :
    (resolve cat choice pal).1 = cat.palette id ∧ (resolve cat choice pal).2.1 = cat.palette id := by
  subst h
  exact ⟨rfl, rfl⟩

/-! The updates of the state, each with the condition under which it keeps the invariant. -/

section
variable {s : State} (h : s.Inv)
include h

/-- No clause speaks of these elements and agents. -/
theorem inv_with_unconstrained (blend : Blend) (bright : Byte) (result : Rgb) (errCmd errMode : Bool) (inputs : List Input)
    (sinkOut : List (BitVec 24)) :
    State.Inv { s with
      blend := blend, bright := bright, result := result, errCmd := errCmd, errMode := errMode, inputs := inputs,
      sinkOut := sinkOut } :=
  { h with }

/-- Going on puts an end to the duty of a black frame (R130). -/
theorem inv_with_on : State.Inv { s with on := true } :=
  { h with off_black := fun hoff => by cases hoff }

/-- A black frame meets the invariant both on and off (R129, R141, R201). -/
theorem inv_blackout (on : Bool) : (blackout { s with on := on }).Inv :=
  { h with
    memory := blackout_wf _ h.memory
    off_black := fun _ => congrArg State.fb (blackout_eq { s with on := on }) }

/-- While on, any frame of the right size meets the invariant (R60, R201). -/
theorem inv_writeFrame (hon : s.on = true) (pixel : Nat → Rgb) : (writeFrame pixel s).Inv :=
  { h with
    memory := writeFrame_wf pixel s h.memory
    off_black := fun hoff => by cases hon.symm.trans hoff }

/-- A scroll mode may move the offset (R143). -/
theorem inv_advanceOffset (hscroll : s.modeCfg.strategy = .scroll) (delta : Byte) : (advanceOffset delta s).Inv :=
  { h with crossfade_offset := fun hcross => by cases hscroll.symm.trans hcross }

/-- A masked scroll mode may move the mask gate and the counter, which stays below 11 (R31, R143). -/
theorem inv_stepMask (hmask : s.modeCfg.strategy = .scroll ∧ s.modeCfg.masked = true) (now : BitVec 32) :
    (stepMask now s).Inv :=
  { h with
    secCnt_range := by
      rw [stepMask_secCnt_toNat]
      split
      · exact Nat.mod_lt _ (by decide)
      · exact h.secCnt_range
    mask_idle := fun hidle => absurd hmask hidle }

/-- A crossfade mode may change both palettes and the target gate, and holds the offset at 0 (R160). -/
theorem inv_with_crossfade (hcross : s.modeCfg.strategy = .crossfade) (curPal tgtPal : Palette) (tgtGate : Gate)
    (pal : PaletteChannel) :
    State.Inv { s with offset := 0, curPal := curPal, tgtPal := tgtPal, tgtGate := tgtGate, pal := pal } :=
  { h with
    crossfade_offset := fun _ => rfl
    target_idle := fun hne => absurd hcross hne
    catalog_palette := fun _ _ hne => absurd hcross hne }

/-- A fire mode may change the heat field, by draws that are answered (R170, R179). -/
theorem inv_with_fireHeat (hfire : s.modeCfg.strategy = .fire) {heat : List Byte} {rnd : RandomChannel}
    (drawn : fireHeat s.cfg s.heat s.rnd = some (heat, rnd)) : State.Inv { s with heat := heat, rnd := rnd } :=
  { h with
    memory := fireHeat_wf s h.memory drawn
    heat_cold := fun hne => absurd hfire hne
    requests_bounded := fireHeat_requests_carried drawn h.requests_bounded }

/-! The operations of the commands. -/

theorem inv_runScroll (running : runsBy s .scroll) (now : BitVec 32) : (runScroll s.modeCfg now s).Inv := by
  obtain ⟨hon, hscroll⟩ := running
  have hmoved := inv_advanceOffset h hscroll s.modeCfg.delta
  unfold runScroll
  split
  · next masked => exact inv_writeFrame (inv_stepMask hmoved ⟨hscroll, masked⟩ now) hon _
  · exact inv_writeFrame hmoved hon _

theorem inv_runCrossfade (running : runsBy s .crossfade) (now : BitVec 32) : (runCrossfade s.modeCfg now s).Inv := by
  obtain ⟨hon, hcross⟩ := running
  exact inv_writeFrame (inv_with_crossfade h hcross _ _ _ _) hon _

theorem inv_runFire (running : runsBy s .fire) {heat : List Byte} {rnd : RandomChannel}
    (drawn : fireHeat s.cfg s.heat s.rnd = some (heat, rnd)) :
    (heatRender { s with heat := heat, rnd := rnd }).Inv := by
  obtain ⟨hon, hfire⟩ := running
  exact inv_writeFrame (inv_with_fireHeat h hfire drawn) hon _

/-- An admitted SETMODE writes every element that a clause ties to the mode (R125). -/
theorem inv_enterMode (m : Mode) : (enterMode m s).Inv :=
  { h with
    memory := enterMode_wf m s h.memory
    secCnt_range := Nat.zero_lt_succ 10
    period_of_mode := rfl
    heat_cold := fun _ => rfl
    crossfade_offset := fun _ => rfl
    mask_idle := fun _ => ⟨rfl, rfl⟩
    target_idle := fun _ => rfl
    catalog_palette := fun _ hid _ => resolve_palettes_of_catalog hid s.pal
    log_admitted := List.forall_mem_append.mpr ⟨h.log_admitted, List.forall_mem_singleton.mpr (Mode.code_toNat_le m)⟩ }

end

/-- A reset state meets the invariant if the two records that go on, of requests and of log events, do (R47, R210). -/
theorem inv_resetOf (params : LegalParams) (inputs : List Input) {rnd : RandomChannel} (pal : PaletteChannel)
    {logOut : List Byte} (sinkOut : List (BitVec 24)) (hrnd : ∀ n ∈ rnd.requests, 1 ≤ n ∧ n ≤ 65535)
    (hlog : ∀ c ∈ logOut, c.toNat ≤ 8) : (State.resetOf params inputs rnd pal logOut sinkOut).Inv where
  memory := resetOf_wf ..
  secCnt_range := Nat.zero_lt_succ 10
  period_of_mode := rfl
  off_black _ := rfl
  heat_cold _ := rfl
  crossfade_offset _ := rfl
  mask_idle _ := ⟨rfl, rfl⟩
  target_idle _ := rfl
  catalog_palette _ hid _ := resolve_palettes_of_catalog hid pal
  requests_bounded := hrnd
  log_admitted := hlog

/-- Every effect that a command can have keeps the invariant. -/
theorem inv_of_commandEffect {s t : State} {i : Instr} (h : s.Inv) (e : CommandEffect s i t) : t.Inv := by
  cases e with
  | nop => exact h
  | enterMode m => exact inv_enterMode h m
  | runOff => exact inv_blackout h s.on
  | runScroll now running => exact inv_runScroll h running now
  | runCrossfade now running => exact inv_runCrossfade h running now
  | runFire _ running _ _ drawn => exact inv_runFire h running drawn
  | off => exact inv_blackout h false
  | on => exact inv_with_on h
  | invalidMode | setbright | setblend | sample => exact inv_with_unconstrained h ..

/-- Settles O55: a reset state with no request made and nothing logged. -/
theorem resetStateMeetsTheInvariant : Obligations.ResetStateMeetsTheInvariant :=
  inv_resetOf _ _ _ _ (List.forall_mem_nil _) (List.forall_mem_nil _)

/-- Settles O56: by the inversion of `step`, with the invariant kept by every effect of a command and by reset. -/
theorem everyStepKeepsTheInvariant : Obligations.EveryStepKeepsTheInvariant := by
  intro s t h hstep
  obtain ⟨-, rfl⟩ | ⟨w, rest, i, -, -, hexec⟩ | ⟨w, rest, -, -, rfl⟩ | ⟨rest, -, rfl⟩ | ⟨addr, rest, -, rfl⟩ :=
    step_cases hstep
  · exact h
  · exact inv_of_commandEffect (inv_with_unconstrained h ..) (commandEffect_of_exec hexec)
  · exact inv_with_unconstrained h ..
  · exact inv_resetOf _ _ _ _ h.requests_bounded h.log_admitted
  · exact inv_with_unconstrained h ..

end Sys2Proof.Machine
end

section
/-! SUPPORT. A fire tick completes exactly on listed answers in range (O27). -/

namespace Sys2Proof.Machine

open Sys2Proof.Spec

/-- A listed answer is taken exactly if it is in range (R12, U4). -/
theorem RandomChannel.draw_listed (n : Nat) (a : BitVec 16) (rest : List (BitVec 16)) (requests : List Nat) :
    RandomChannel.draw n ⟨a :: rest, requests⟩ =
      if a.toNat < n then some (a.toNat, ⟨rest, requests ++ [n]⟩) else none := rfl

/-- With no answer listed a draw is answered by a free value (log entry 4). -/
theorem RandomChannel.draw_free (n : Nat) (requests : List Nat) :
    RandomChannel.draw n ⟨[], requests⟩ =
      some ((Config.freeRandom requests.length n).toNat % n, ⟨[], requests ++ [n]⟩) := rfl

/-- `Cool` is answered if the draw for its first cell and those for the others are (R172). -/
theorem cool_cons_isSome (cmax : Nat) (x : Byte) (cells : List Byte) (c : RandomChannel) :
    (cool cmax (x :: cells) c).isSome = (c.draw cmax).any fun q => (cool cmax cells q.2).isSome := by
  rw [cool]
  cases c.draw cmax with
  | none => rfl
  | some q => simp only [Option.any_some]; split <;> simp [*]

/-- `Cool` is answered exactly if the listed answers for its cells are below `cmax` (R172). -/
theorem cool_isSome (cmax : Nat) (h : List Byte) (c : RandomChannel) :
    (cool cmax h c).isSome = (c.answers.take h.length).all fun v => decide (v.toNat < cmax) := by
  induction h generalizing c with
  | nil => rfl
  | cons x cells ih =>
    obtain ⟨answers, requests⟩ := c
    rw [cool_cons_isSome]
    cases answers with
    | nil => simp [RandomChannel.draw_free, ih]
    | cons a rest =>
      by_cases ha : a.toNat < cmax <;> simp [RandomChannel.draw_listed, ha, ih]

/-- After the last listed answer every answer is in range. -/
@[simp] theorem sparkAnswersInRange_nil (sparking zone n : Nat) : sparkAnswersInRange sparking zone n [] = true := by
  cases n <;> rfl

/-- The spark attempts are answered if the first and those after it are (R176). -/
theorem ignite_succ_isSome (sparking zone n : Nat) (h : List Byte) (c : RandomChannel) :
    (ignite sparking zone (n + 1) h c).isSome =
      (spark sparking zone h c).any fun q => (ignite sparking zone n q.1 q.2).isSome := by
  rw [ignite]
  cases spark sparking zone h c <;> rfl

/-- A spark attempt as its draws: one, and two more if it fires (R176). -/
theorem spark_eq_bind (sparking zone : Nat) (h : List Byte) (c : RandomChannel) :
    spark sparking zone h c = (c.draw 256).bind fun r =>
      if r.1 < sparking then
        (r.2.draw zone).bind fun y => (y.2.draw 95).map fun v => (heatCell h y.1 (160 + v.1), v.2)
      else some (h, r.2) := by
  unfold spark
  cases c.draw 256 with
  | none => rfl
  | some r =>
    simp only [Option.bind_some]
    split
    · cases r.2.draw zone with
      | none => rfl
      | some y => cases hv : y.2.draw 95 <;> simp [hv]
    · rfl

/-- The spark attempts are answered exactly if the listed answers they take are in range (R176). -/
theorem ignite_isSome (sparking zone n : Nat) (h : List Byte) (c : RandomChannel) :
    (ignite sparking zone n h c).isSome = sparkAnswersInRange sparking zone n c.answers := by
  induction n generalizing h c with
  | zero => rfl
  | succ n ih =>
    obtain ⟨answers, requests⟩ := c
    rw [ignite_succ_isSome, spark_eq_bind]
    match answers with
    | [] =>
      simp only [RandomChannel.draw_free, Option.bind_some, Option.map_some]
      split <;> simp [ih]
    | r :: rest =>
      by_cases hr : r.toNat < 256
      · by_cases hfire : r.toNat < sparking
        · match rest with
          | [] => simp [RandomChannel.draw_listed, RandomChannel.draw_free, sparkAnswersInRange, hr, hfire, ih]
          | [y] =>
            by_cases hy : y.toNat < zone <;>
              simp [RandomChannel.draw_listed, RandomChannel.draw_free, sparkAnswersInRange, hr, hfire, hy, ih]
          | y :: v :: rest =>
            by_cases hy : y.toNat < zone <;> by_cases hv : v.toNat < 95 <;>
              simp [RandomChannel.draw_listed, sparkAnswersInRange, hr, hfire, hy, hv, ih]
        · simp [RandomChannel.draw_listed, sparkAnswersInRange, hr, hfire, ih]
      · simp [RandomChannel.draw_listed, sparkAnswersInRange, hr]

/-- `Cool` leaves the listed answers after those for its cells (R172). -/
theorem cool_answers {cmax : Nat} {h h' : List Byte} {c c' : RandomChannel} (hc : 1 ≤ cmax)
    (e : cool cmax h c = some (h', c')) : c'.answers = c.answers.drop h.length := by
  obtain ⟨ds, hlen, -, -, hdraws⟩ := cool_draws hc e
  rw [hdraws.answers, hlen]

/-- The draws of a fire tick are answered exactly if the listed answers it takes are in range (R172, R176, R217). -/
theorem fireHeat_isSome (s : State) : (fireHeat s.cfg s.heat s.rnd).isSome = fireAnswersInRange s := by
  unfold fireHeat fireAnswersInRange
  rw [← cool_isSome]
  cases hcool : cool (coolingBound s.cfg) s.heat s.rnd with
  | none => rfl
  | some q =>
    obtain ⟨cooled, c⟩ := q
    rw [← cool_answers (coolingBound_pos s.cfg) hcool, Option.isSome_some, Bool.true_and]
    exact ignite_isSome ..

/-- With no answer listed every answer is in range. -/
theorem fireAnswersInRange_of_no_answers {s : State} (h : s.rnd.answers = []) : fireAnswersInRange s = true := by
  simp [fireAnswersInRange, h]

/-- RUN in a fire mode completes where the answers are in range (R170). -/
theorem exec_run_fire_completes {s : State} (hfire : runsBy s .fire) (h : fireAnswersInRange s = true) (now : BitVec 32) :
    ∃ t, exec (.run now) s = .next t := by
  obtain ⟨q, hq⟩ := Option.isSome_iff_exists.mp ((fireHeat_isSome s).trans h)
  rw [exec_run_fire hfire, runFire, hq]
  exact ⟨_, rfl⟩

/-- RUN in a fire mode is refused where an answer is out of range (U4). -/
theorem exec_run_fire_refused {s : State} (hfire : runsBy s .fire) (h : fireAnswersInRange s = false) (now : BitVec 32) :
    exec (.run now) s = .refused .randomAnswerOutOfRange := by
  have hnone : fireHeat s.cfg s.heat s.rnd = none :=
    Option.not_isSome_iff_eq_none.mp (by simp [fireHeat_isSome, h])
  rw [exec_run_fire hfire, runFire, hnone]

/-- Settles O27: `fireHeat` has a value exactly if the listed answers it takes are in range. -/
theorem fireCompletesOnAnswersInRange : Obligations.FireCompletesOnAnswersInRange :=
  ⟨fun _ now hfire h => exec_run_fire_completes hfire h now, fun _ now hfire h => exec_run_fire_refused hfire h now,
    fun _ now hfire h => exec_run_fire_completes hfire (fireAnswersInRange_of_no_answers h) now⟩

end Sys2Proof.Machine
end

section
/-! SUPPORT. Steps of single inputs (O5, O45), and the parameters through a step (O51). -/

namespace Sys2Proof.Machine

/-- A word given by its table bits decodes as the word of those bits. -/
theorem decode_of_decodeTableWord {nbits w : Nat} {i : Instr} (h : decodeTableWord nbits w = some i) :
    decode (wordOfTableBits nbits w) = .ok i := by
  unfold decodeTableWord at h
  split at h
  · next hd => rw [hd, Option.some.inj h]
  · cases h

/-- Settles O5: `step_of_decode_ok` for a queued word and for the word presented, and `step_nil`. -/
theorem stepRunsTheDecodedCommand : Obligations.StepRunsTheDecodedCommand :=
  ⟨fun _ _ _ _ => step_of_decode_ok,
    fun s nbits w _ hd => step_of_decode_ok (presentWord_inputs (wordOfTableBits nbits w) s) (decode_of_decodeTableWord hd),
    fun _ => step_nil⟩

/-- A sink read is carried out as `sinkRead` (R44). -/
theorem step_sinkRead {s : State} {addr : BitVec 16} {rest : List Input} (hin : s.inputs = .sinkRead addr :: rest) :
    step s = .next (sinkRead addr { s with inputs := rest }) := by
  rw [step_cons hin, runInput]

/-- Where an entry exists, `fb_data` is that entry packed (R61). -/
theorem frameData_of_getElem? {s : State} {addr : BitVec 16} {c : Rgb} (h : s.fb[addr.toNat]? = some c) :
    frameData s addr = c.pack := by
  simp [frameData, memRead, h]

/-- Settles O45: the step appends `fb_data` to the record of reads, whatever it is. -/
theorem sinkReadsTheFrame : Obligations.SinkReadsTheFrame := by
  refine ⟨fun s addr rest c hin hc => ?_, fun s addr rest hin => ⟨_, step_sinkRead hin⟩⟩
  have hdata : frameData { s with inputs := rest } addr = c.r ++ c.g ++ c.b := frameData_of_getElem? hc
  rw [step_sinkRead hin, sinkRead, hdata]

/-- No command changes a parameter. -/
theorem params_kept {s t : State} {i : Instr} (e : CommandEffect s i t) : t.params = s.params := by
  cases e <;> simp

/-- Settles O51: neither the commands nor the other kinds of step write `params`. -/
theorem parametersNeverChange : Obligations.ParametersNeverChange := by
  intro s t hstep
  obtain ⟨-, rfl⟩ | ⟨w, rest, i, -, -, hexec⟩ | ⟨w, rest, -, -, rfl⟩ | ⟨rest, -, rfl⟩ | ⟨addr, rest, -, rfl⟩ :=
    step_cases hstep
  · rfl
  · have hparams := params_kept (commandEffect_of_exec hexec)
    exact hparams
  · rfl
  · rfl
  · rfl

end Sys2Proof.Machine
end

section
/-! SUPPORT. The reset state's default values (O54). -/

namespace Sys2Proof.Machine

/-- The default mode is `RAINBOW`, so reset resolves its catalog palette (R7, R123, R211). -/
theorem reset_palettes : State.reset.curPal = State.reset.cfg.catalog.palette .rainbowP ∧
    State.reset.tgtPal = State.reset.cfg.catalog.palette .rainbowP := ⟨rfl, rfl⟩

/-- Every entry of `FB` is black after reset (R47). -/
theorem memRead_reset {i : Nat} (hi : i < State.reset.cfg.numLeds) : memRead State.reset i = some Rgb.black :=
  List.getElem?_replicate_of_lt hi

/-- Every cell is cold after reset (R47). -/
theorem reset_heat_getElem? {k : Nat} (hk : k < State.reset.cfg.cellCount) : State.reset.heat[k]? = some 0 :=
  List.getElem?_replicate_of_lt hk

/-- Settles O54: the defaults stand in `resetParams` and in `State.resetOf`, whatever the open parameters are. -/
theorem resetStateShowsTheDefaults : Obligations.ResetStateShowsTheDefaults := by
  obtain ⟨hcur, htgt⟩ := reset_palettes
  exact ⟨rfl, rfl, rfl, rfl, hcur, htgt.trans hcur.symm, fun _ => memRead_reset, fun _ => reset_heat_getElem?⟩

end Sys2Proof.Machine
end
